-- ==== Sys2Proof/Word.lean ====
section
/-! DEFINITION. The word types of the block (spec/00_scope.md R6: byte 8, word 16, dword 32 bits). -/

namespace Sys2Proof

/-- A byte (R6). -/
abbrev Byte := BitVec 8

/-- A 16-bit word: DMA addresses, counts and units (R6, R13). -/
abbrev Word := BitVec 16

/-- A port number, `PORT_BITS` = 16 (R5). -/
abbrev PortNo := BitVec 16

/-- A physical address, `PHYS_ADDR_BITS` = 24 (R5). -/
abbrev PhysAddr := BitVec 24

/-- One of the eight inputs of a PIC controller; sums wrap modulo 8 (R13). -/
abbrev Input := BitVec 3

/-- One operation as a number: the 28-bit table word of R117 in bits 27:0, and above it the operand words that
the table gives no bits (bits 63:32 and 95:64; notes/assumptions/3.md, DESIGN CHOICE). -/
abbrev Packet := BitVec 96

end Sys2Proof
end

