-- ==== Sys2Proof/Syntax.lean ====
section
/-! DEFINITION. The operations of the block: one constructor of `Instr` for each mnemonic of spec/opcode_table.json,
and the names its operands use. A row is named by what it does; which bits select it is Decode.lean. -/

namespace Sys2Proof

/-- The two PIC controllers (00_scope.md R7): `master` is `pic[0]`, `slave` is `pic[1]`. -/
inductive PicId where
  | master
  | slave
  deriving DecidableEq, Repr

/-- The two DMA controllers (00_scope.md R4): `dma0` is 8-bit, `dma1` is 16-bit and wired to the CPU's hold request. -/
inductive DmaId where
  | dma0
  | dma1
  deriving DecidableEq, Repr

/-- A local channel of a DMA controller (00_scope.md R7, `j` in 0..3). -/
inductive Chan where
  | c0
  | c1
  | c2
  | c3
  deriving DecidableEq, Repr

/-- The eight extra page slots (10_state.md R35). -/
inductive ExtSlot where
  | x80
  | x84
  | x85
  | x86
  | x88
  | x8C
  | x8D
  | x8E
  deriving DecidableEq, Repr

/-- The number of the ICW that the next mask-port write supplies (10_state.md R24: `byte_expected` is 2, 3 or 4). -/
inductive IcwWord where
  | icw2
  | icw3
  | icw4
  deriving DecidableEq, Repr

/-- The type of a host key event (43_kbd_device.md R347). -/
inductive KeyType where
  | press
  | release
  deriving DecidableEq, Repr

/-- The side of a host key event (43_kbd_device.md R347). -/
inductive KeySide where
  | standard
  | left
  | right
  | numpad
  deriving DecidableEq, Repr

/-- The device identities of the IRQ registry (40_pic.md R145). `other` is every identity the registry does not know;
its code only keeps two unknown identities apart (notes/assumptions/3.md). -/
inductive Identity where
  | pit
  | keyboard
  | serial
  | floppy
  | rtc
  | mouse
  | ata0
  | ata1
  | ata2
  | ata3
  | other (code : BitVec 32)
  deriving DecidableEq, Repr

/-- A DMA handler as the block sees it (41_dma.md R200): which of its two callbacks are present ("any of which may be
absent"). What a present callback answers is the device's (notes/assumptions/13.md). -/
structure Handler where
  devToMem : Bool
  memToDev : Bool
  deriving DecidableEq, Repr

/-- One operation of the block (30_encoding.md R100, R101, R117). -/
inductive Instr where
  /-- `PIC0_ICW1`: `OUT 0x20, data` (40_pic.md R146). -/
  | pic0Icw1 (data : Byte)
  /-- `PIC0_OCW3`: `OUT 0x20, data` (40_pic.md R159). -/
  | pic0Ocw3 (data : Byte)
  /-- `PIC0_EOI`: `OUT 0x20, 0x20` (40_pic.md R151). -/
  | pic0Eoi
  /-- `PIC0_EOI_ROTATE`: `OUT 0x20, 0xA0` (40_pic.md R152). -/
  | pic0EoiRotate
  /-- `PIC0_SEOI`: `OUT 0x20, 0x60 + level` (40_pic.md R153). -/
  | pic0Seoi (level : Input)
  /-- `PIC0_SEOI_ROTATE`: `OUT 0x20, 0xE0 + level` (40_pic.md R154). -/
  | pic0SeoiRotate (level : Input)
  /-- `PIC0_SET_PRIORITY`: `OUT 0x20, 0xC0 + level` (40_pic.md R155). -/
  | pic0SetPriority (level : Input)
  /-- `PIC0_OCW2_NOP`: `OUT 0x20, 0x40` (40_pic.md R156). -/
  | pic0Ocw2Nop
  /-- `PIC0_ROT_AEOI_SET`: `OUT 0x20, 0x80` (40_pic.md R157). -/
  | pic0RotAeoiSet
  /-- `PIC0_ROT_AEOI_CLR`: `OUT 0x20, 0x00` (40_pic.md R157). -/
  | pic0RotAeoiClr
  /-- `PIC0_OCW2_RESERVED`: `OUT 0x20, data` (40_pic.md R158). -/
  | pic0Ocw2Reserved (data : Byte)
  /-- `PIC0_ICW2`: `OUT 0x21, data` when pic[0].in_init = 1 and pic[0].byte_expected = 2 (40_pic.md R147). -/
  | pic0Icw2 (data : Byte)
  /-- `PIC0_ICW3`: `OUT 0x21, data` when pic[0].in_init = 1 and pic[0].byte_expected = 3 (40_pic.md R148). -/
  | pic0Icw3 (data : Byte)
  /-- `PIC0_ICW4`: `OUT 0x21, data` when pic[0].in_init = 1 and pic[0].byte_expected = 4 (40_pic.md R149). -/
  | pic0Icw4 (data : Byte)
  /-- `PIC0_OCW1`: `OUT 0x21, data` when pic[0].in_init = 0 (40_pic.md R150). -/
  | pic0Ocw1 (data : Byte)
  /-- `PIC0_READ_CMD`: `IN 0x20` when pic[0].polled = 0 (40_pic.md R160). -/
  | pic0ReadCmd
  /-- `PIC0_READ_MASK`: `IN 0x21` when pic[0].polled = 0 (40_pic.md R161). -/
  | pic0ReadMask
  /-- `PIC0_POLL_CMD`: `IN 0x20` when pic[0].polled = 1 (40_pic.md R162). -/
  | pic0PollCmd
  /-- `PIC0_POLL_MASK`: `IN 0x21` when pic[0].polled = 1 (40_pic.md R162). -/
  | pic0PollMask
  /-- `PIC1_ICW1`: `OUT 0xA0, data` (40_pic.md R146). -/
  | pic1Icw1 (data : Byte)
  /-- `PIC1_OCW3`: `OUT 0xA0, data` (40_pic.md R159). -/
  | pic1Ocw3 (data : Byte)
  /-- `PIC1_EOI`: `OUT 0xA0, 0x20` (40_pic.md R151). -/
  | pic1Eoi
  /-- `PIC1_EOI_ROTATE`: `OUT 0xA0, 0xA0` (40_pic.md R152). -/
  | pic1EoiRotate
  /-- `PIC1_SEOI`: `OUT 0xA0, 0x60 + level` (40_pic.md R153). -/
  | pic1Seoi (level : Input)
  /-- `PIC1_SEOI_ROTATE`: `OUT 0xA0, 0xE0 + level` (40_pic.md R154). -/
  | pic1SeoiRotate (level : Input)
  /-- `PIC1_SET_PRIORITY`: `OUT 0xA0, 0xC0 + level` (40_pic.md R155). -/
  | pic1SetPriority (level : Input)
  /-- `PIC1_OCW2_NOP`: `OUT 0xA0, 0x40` (40_pic.md R156). -/
  | pic1Ocw2Nop
  /-- `PIC1_ROT_AEOI_SET`: `OUT 0xA0, 0x80` (40_pic.md R157). -/
  | pic1RotAeoiSet
  /-- `PIC1_ROT_AEOI_CLR`: `OUT 0xA0, 0x00` (40_pic.md R157). -/
  | pic1RotAeoiClr
  /-- `PIC1_OCW2_RESERVED`: `OUT 0xA0, data` (40_pic.md R158). -/
  | pic1Ocw2Reserved (data : Byte)
  /-- `PIC1_ICW2`: `OUT 0xA1, data` when pic[1].in_init = 1 and pic[1].byte_expected = 2 (40_pic.md R147). -/
  | pic1Icw2 (data : Byte)
  /-- `PIC1_ICW3`: `OUT 0xA1, data` when pic[1].in_init = 1 and pic[1].byte_expected = 3 (40_pic.md R148). -/
  | pic1Icw3 (data : Byte)
  /-- `PIC1_ICW4`: `OUT 0xA1, data` when pic[1].in_init = 1 and pic[1].byte_expected = 4 (40_pic.md R149). -/
  | pic1Icw4 (data : Byte)
  /-- `PIC1_OCW1`: `OUT 0xA1, data` when pic[1].in_init = 0 (40_pic.md R150). -/
  | pic1Ocw1 (data : Byte)
  /-- `PIC1_READ_CMD`: `IN 0xA0` when pic[1].polled = 0 (40_pic.md R160). -/
  | pic1ReadCmd
  /-- `PIC1_READ_MASK`: `IN 0xA1` when pic[1].polled = 0 (40_pic.md R161). -/
  | pic1ReadMask
  /-- `PIC1_POLL_CMD`: `IN 0xA0` when pic[1].polled = 1 (40_pic.md R162). -/
  | pic1PollCmd
  /-- `PIC1_POLL_MASK`: `IN 0xA1` when pic[1].polled = 1 (40_pic.md R162). -/
  | pic1PollMask
  /-- `DMA0_ADDR0_W`: `OUT 0x00, data` (41_dma.md R205). -/
  | dma0Addr0W (data : Byte)
  /-- `DMA0_ADDR0_R`: `IN 0x00` (41_dma.md R207). -/
  | dma0Addr0R
  /-- `DMA0_COUNT0_W`: `OUT 0x01, data` (41_dma.md R206). -/
  | dma0Count0W (data : Byte)
  /-- `DMA0_COUNT0_R`: `IN 0x01` (41_dma.md R208). -/
  | dma0Count0R
  /-- `DMA0_ADDR1_W`: `OUT 0x02, data` (41_dma.md R205). -/
  | dma0Addr1W (data : Byte)
  /-- `DMA0_ADDR1_R`: `IN 0x02` (41_dma.md R207). -/
  | dma0Addr1R
  /-- `DMA0_COUNT1_W`: `OUT 0x03, data` (41_dma.md R206). -/
  | dma0Count1W (data : Byte)
  /-- `DMA0_COUNT1_R`: `IN 0x03` (41_dma.md R208). -/
  | dma0Count1R
  /-- `DMA0_ADDR2_W`: `OUT 0x04, data` (41_dma.md R205). -/
  | dma0Addr2W (data : Byte)
  /-- `DMA0_ADDR2_R`: `IN 0x04` (41_dma.md R207). -/
  | dma0Addr2R
  /-- `DMA0_COUNT2_W`: `OUT 0x05, data` (41_dma.md R206). -/
  | dma0Count2W (data : Byte)
  /-- `DMA0_COUNT2_R`: `IN 0x05` (41_dma.md R208). -/
  | dma0Count2R
  /-- `DMA0_ADDR3_W`: `OUT 0x06, data` (41_dma.md R205). -/
  | dma0Addr3W (data : Byte)
  /-- `DMA0_ADDR3_R`: `IN 0x06` (41_dma.md R207). -/
  | dma0Addr3R
  /-- `DMA0_COUNT3_W`: `OUT 0x07, data` (41_dma.md R206). -/
  | dma0Count3W (data : Byte)
  /-- `DMA0_COUNT3_R`: `IN 0x07` (41_dma.md R208). -/
  | dma0Count3R
  /-- `DMA0_COMMAND_W`: `OUT 0x08, data` (41_dma.md R209). -/
  | dma0CommandW (data : Byte)
  /-- `DMA0_STATUS_R`: `IN 0x08` (41_dma.md R210). -/
  | dma0StatusR
  /-- `DMA0_REQUEST_W`: `OUT 0x09, data` (41_dma.md R211). -/
  | dma0RequestW (data : Byte)
  /-- `DMA0_SINGLE_MASK_W`: `OUT 0x0A, data` (41_dma.md R212). -/
  | dma0SingleMaskW (data : Byte)
  /-- `DMA0_MODE_W`: `OUT 0x0B, data` (41_dma.md R213). -/
  | dma0ModeW (data : Byte)
  /-- `DMA0_CLEAR_FLIPFLOP`: `OUT 0x0C, data` (41_dma.md R214). -/
  | dma0ClearFlipflop (data : Byte)
  /-- `DMA0_MASTER_CLEAR`: `OUT 0x0D, data` (41_dma.md R215). -/
  | dma0MasterClear (data : Byte)
  /-- `DMA0_CLEAR_MASK`: `OUT 0x0E, data` (41_dma.md R216). -/
  | dma0ClearMask (data : Byte)
  /-- `DMA0_FULL_MASK_W`: `OUT 0x0F, data` (41_dma.md R217). -/
  | dma0FullMaskW (data : Byte)
  /-- `DMA0_WRITE_ONLY_R_9`: `IN 0x09` (41_dma.md R221). -/
  | dma0WriteOnlyR9
  /-- `DMA0_WRITE_ONLY_R_A`: `IN 0x0A` (41_dma.md R221). -/
  | dma0WriteOnlyRA
  /-- `DMA0_WRITE_ONLY_R_B`: `IN 0x0B` (41_dma.md R221). -/
  | dma0WriteOnlyRB
  /-- `DMA0_WRITE_ONLY_R_C`: `IN 0x0C` (41_dma.md R221). -/
  | dma0WriteOnlyRC
  /-- `DMA0_WRITE_ONLY_R_D`: `IN 0x0D` (41_dma.md R221). -/
  | dma0WriteOnlyRD
  /-- `DMA0_WRITE_ONLY_R_E`: `IN 0x0E` (41_dma.md R221). -/
  | dma0WriteOnlyRE
  /-- `DMA0_WRITE_ONLY_R_F`: `IN 0x0F` (41_dma.md R221). -/
  | dma0WriteOnlyRF
  /-- `DMA1_ADDR0_W`: `OUT 0xC0, data` (41_dma.md R205). -/
  | dma1Addr0W (data : Byte)
  /-- `DMA1_ADDR0_R`: `IN 0xC0` (41_dma.md R207). -/
  | dma1Addr0R
  /-- `DMA1_COUNT0_W`: `OUT 0xC2, data` (41_dma.md R206). -/
  | dma1Count0W (data : Byte)
  /-- `DMA1_COUNT0_R`: `IN 0xC2` (41_dma.md R208). -/
  | dma1Count0R
  /-- `DMA1_ADDR1_W`: `OUT 0xC4, data` (41_dma.md R205). -/
  | dma1Addr1W (data : Byte)
  /-- `DMA1_ADDR1_R`: `IN 0xC4` (41_dma.md R207). -/
  | dma1Addr1R
  /-- `DMA1_COUNT1_W`: `OUT 0xC6, data` (41_dma.md R206). -/
  | dma1Count1W (data : Byte)
  /-- `DMA1_COUNT1_R`: `IN 0xC6` (41_dma.md R208). -/
  | dma1Count1R
  /-- `DMA1_ADDR2_W`: `OUT 0xC8, data` (41_dma.md R205). -/
  | dma1Addr2W (data : Byte)
  /-- `DMA1_ADDR2_R`: `IN 0xC8` (41_dma.md R207). -/
  | dma1Addr2R
  /-- `DMA1_COUNT2_W`: `OUT 0xCA, data` (41_dma.md R206). -/
  | dma1Count2W (data : Byte)
  /-- `DMA1_COUNT2_R`: `IN 0xCA` (41_dma.md R208). -/
  | dma1Count2R
  /-- `DMA1_ADDR3_W`: `OUT 0xCC, data` (41_dma.md R205). -/
  | dma1Addr3W (data : Byte)
  /-- `DMA1_ADDR3_R`: `IN 0xCC` (41_dma.md R207). -/
  | dma1Addr3R
  /-- `DMA1_COUNT3_W`: `OUT 0xCE, data` (41_dma.md R206). -/
  | dma1Count3W (data : Byte)
  /-- `DMA1_COUNT3_R`: `IN 0xCE` (41_dma.md R208). -/
  | dma1Count3R
  /-- `DMA1_COMMAND_W`: `OUT 0xD0, data` (41_dma.md R209). -/
  | dma1CommandW (data : Byte)
  /-- `DMA1_STATUS_R`: `IN 0xD0` (41_dma.md R210). -/
  | dma1StatusR
  /-- `DMA1_REQUEST_W`: `OUT 0xD2, data` (41_dma.md R211). -/
  | dma1RequestW (data : Byte)
  /-- `DMA1_SINGLE_MASK_W`: `OUT 0xD4, data` (41_dma.md R212). -/
  | dma1SingleMaskW (data : Byte)
  /-- `DMA1_MODE_W`: `OUT 0xD6, data` (41_dma.md R213). -/
  | dma1ModeW (data : Byte)
  /-- `DMA1_CLEAR_FLIPFLOP`: `OUT 0xD8, data` (41_dma.md R214). -/
  | dma1ClearFlipflop (data : Byte)
  /-- `DMA1_MASTER_CLEAR`: `OUT 0xDA, data` (41_dma.md R215). -/
  | dma1MasterClear (data : Byte)
  /-- `DMA1_CLEAR_MASK`: `OUT 0xDC, data` (41_dma.md R216). -/
  | dma1ClearMask (data : Byte)
  /-- `DMA1_FULL_MASK_W`: `OUT 0xDE, data` (41_dma.md R217). -/
  | dma1FullMaskW (data : Byte)
  /-- `DMA1_WRITE_ONLY_R_9`: `IN 0xD2` (41_dma.md R221). -/
  | dma1WriteOnlyR9
  /-- `DMA1_WRITE_ONLY_R_A`: `IN 0xD4` (41_dma.md R221). -/
  | dma1WriteOnlyRA
  /-- `DMA1_WRITE_ONLY_R_B`: `IN 0xD6` (41_dma.md R221). -/
  | dma1WriteOnlyRB
  /-- `DMA1_WRITE_ONLY_R_C`: `IN 0xD8` (41_dma.md R221). -/
  | dma1WriteOnlyRC
  /-- `DMA1_WRITE_ONLY_R_D`: `IN 0xDA` (41_dma.md R221). -/
  | dma1WriteOnlyRD
  /-- `DMA1_WRITE_ONLY_R_E`: `IN 0xDC` (41_dma.md R221). -/
  | dma1WriteOnlyRE
  /-- `DMA1_WRITE_ONLY_R_F`: `IN 0xDE` (41_dma.md R221). -/
  | dma1WriteOnlyRF
  /-- `DMA_PAGE_G0_W`: `OUT 0x87, data` (41_dma.md R218). -/
  | dmaPageG0W (data : Byte)
  /-- `DMA_PAGE_G0_R`: `IN 0x87` (41_dma.md R219). -/
  | dmaPageG0R
  /-- `DMA_PAGE_G1_W`: `OUT 0x83, data` (41_dma.md R218). -/
  | dmaPageG1W (data : Byte)
  /-- `DMA_PAGE_G1_R`: `IN 0x83` (41_dma.md R219). -/
  | dmaPageG1R
  /-- `DMA_PAGE_G2_W`: `OUT 0x81, data` (41_dma.md R218). -/
  | dmaPageG2W (data : Byte)
  /-- `DMA_PAGE_G2_R`: `IN 0x81` (41_dma.md R219). -/
  | dmaPageG2R
  /-- `DMA_PAGE_G3_W`: `OUT 0x82, data` (41_dma.md R218). -/
  | dmaPageG3W (data : Byte)
  /-- `DMA_PAGE_G3_R`: `IN 0x82` (41_dma.md R219). -/
  | dmaPageG3R
  /-- `DMA_PAGE_G4_W`: `OUT 0x8F, data` (41_dma.md R218). -/
  | dmaPageG4W (data : Byte)
  /-- `DMA_PAGE_G4_R`: `IN 0x8F` (41_dma.md R219). -/
  | dmaPageG4R
  /-- `DMA_PAGE_G5_W`: `OUT 0x8B, data` (41_dma.md R218). -/
  | dmaPageG5W (data : Byte)
  /-- `DMA_PAGE_G5_R`: `IN 0x8B` (41_dma.md R219). -/
  | dmaPageG5R
  /-- `DMA_PAGE_G6_W`: `OUT 0x89, data` (41_dma.md R218). -/
  | dmaPageG6W (data : Byte)
  /-- `DMA_PAGE_G6_R`: `IN 0x89` (41_dma.md R219). -/
  | dmaPageG6R
  /-- `DMA_PAGE_G7_W`: `OUT 0x8A, data` (41_dma.md R218). -/
  | dmaPageG7W (data : Byte)
  /-- `DMA_PAGE_G7_R`: `IN 0x8A` (41_dma.md R219). -/
  | dmaPageG7R
  /-- `DMA_EXTPAGE_80_W`: `OUT 0x80, data` (41_dma.md R220). -/
  | dmaExtpage80W (data : Byte)
  /-- `DMA_EXTPAGE_80_R`: `IN 0x80` (41_dma.md R220). -/
  | dmaExtpage80R
  /-- `DMA_EXTPAGE_84_W`: `OUT 0x84, data` (41_dma.md R220). -/
  | dmaExtpage84W (data : Byte)
  /-- `DMA_EXTPAGE_84_R`: `IN 0x84` (41_dma.md R220). -/
  | dmaExtpage84R
  /-- `DMA_EXTPAGE_85_W`: `OUT 0x85, data` (41_dma.md R220). -/
  | dmaExtpage85W (data : Byte)
  /-- `DMA_EXTPAGE_85_R`: `IN 0x85` (41_dma.md R220). -/
  | dmaExtpage85R
  /-- `DMA_EXTPAGE_86_W`: `OUT 0x86, data` (41_dma.md R220). -/
  | dmaExtpage86W (data : Byte)
  /-- `DMA_EXTPAGE_86_R`: `IN 0x86` (41_dma.md R220). -/
  | dmaExtpage86R
  /-- `DMA_EXTPAGE_88_W`: `OUT 0x88, data` (41_dma.md R220). -/
  | dmaExtpage88W (data : Byte)
  /-- `DMA_EXTPAGE_88_R`: `IN 0x88` (41_dma.md R220). -/
  | dmaExtpage88R
  /-- `DMA_EXTPAGE_8C_W`: `OUT 0x8C, data` (41_dma.md R220). -/
  | dmaExtpage8CW (data : Byte)
  /-- `DMA_EXTPAGE_8C_R`: `IN 0x8C` (41_dma.md R220). -/
  | dmaExtpage8CR
  /-- `DMA_EXTPAGE_8D_W`: `OUT 0x8D, data` (41_dma.md R220). -/
  | dmaExtpage8DW (data : Byte)
  /-- `DMA_EXTPAGE_8D_R`: `IN 0x8D` (41_dma.md R220). -/
  | dmaExtpage8DR
  /-- `DMA_EXTPAGE_8E_W`: `OUT 0x8E, data` (41_dma.md R220). -/
  | dmaExtpage8EW (data : Byte)
  /-- `DMA_EXTPAGE_8E_R`: `IN 0x8E` (41_dma.md R220). -/
  | dmaExtpage8ER
  /-- `KBC_CMD_READ_CONFIG`: `OUT 0x64, 0x20` (42_kbc.md R269). -/
  | kbcCmdReadConfig
  /-- `KBC_CMD_WRITE_CONFIG`: `OUT 0x64, 0x60` (42_kbc.md R270). -/
  | kbcCmdWriteConfig
  /-- `KBC_CMD_AUX_DISABLE`: `OUT 0x64, 0xA7` (42_kbc.md R271). -/
  | kbcCmdAuxDisable
  /-- `KBC_CMD_AUX_ENABLE`: `OUT 0x64, 0xA8` (42_kbc.md R272). -/
  | kbcCmdAuxEnable
  /-- `KBC_CMD_AUX_TEST`: `OUT 0x64, 0xA9` (42_kbc.md R273). -/
  | kbcCmdAuxTest
  /-- `KBC_CMD_SELF_TEST`: `OUT 0x64, 0xAA` (42_kbc.md R274). -/
  | kbcCmdSelfTest
  /-- `KBC_CMD_KBD_IF_TEST`: `OUT 0x64, 0xAB` (42_kbc.md R275). -/
  | kbcCmdKbdIfTest
  /-- `KBC_CMD_KBD_DISABLE`: `OUT 0x64, 0xAD` (42_kbc.md R276). -/
  | kbcCmdKbdDisable
  /-- `KBC_CMD_KBD_ENABLE`: `OUT 0x64, 0xAE` (42_kbc.md R277). -/
  | kbcCmdKbdEnable
  /-- `KBC_CMD_READ_OUTPORT`: `OUT 0x64, 0xD0` (42_kbc.md R278). -/
  | kbcCmdReadOutport
  /-- `KBC_CMD_WRITE_OUTPORT`: `OUT 0x64, 0xD1` (42_kbc.md R279). -/
  | kbcCmdWriteOutport
  /-- `KBC_CMD_WRITE_KBD_OUTBUF`: `OUT 0x64, 0xD2` (42_kbc.md R280). -/
  | kbcCmdWriteKbdOutbuf
  /-- `KBC_CMD_WRITE_AUX_OUTBUF`: `OUT 0x64, 0xD3` (42_kbc.md R281). -/
  | kbcCmdWriteAuxOutbuf
  /-- `KBC_CMD_WRITE_TO_MOUSE`: `OUT 0x64, 0xD4` (42_kbc.md R282). -/
  | kbcCmdWriteToMouse
  /-- `KBC_CMD_A20_DISABLE`: `OUT 0x64, 0xDD` (42_kbc.md R283). -/
  | kbcCmdA20Disable
  /-- `KBC_CMD_A20_ENABLE`: `OUT 0x64, 0xDF` (42_kbc.md R284). -/
  | kbcCmdA20Enable
  /-- `KBC_CMD_SYSTEM_RESET_UNIMPL`: `OUT 0x64, 0xFE` (42_kbc.md R285). -/
  | kbcCmdSystemResetUnimpl
  /-- `KBC_CMD_PULSE_NOP`: `OUT 0x64, data` (42_kbc.md R286). -/
  | kbcCmdPulseNop (data : Byte)
  /-- `KBC_CMD_UNSUPPORTED`: `OUT 0x64, data` (42_kbc.md R287). -/
  | kbcCmdUnsupported (data : Byte)
  /-- `KBC_STATUS_R`: `IN 0x64` (42_kbc.md R267). -/
  | kbcStatusR
  /-- `KBC_DATA_R_AUX`: `IN 0x60` when kbc.auxb = 1 (42_kbc.md R264). -/
  | kbcDataRAux
  /-- `KBC_DATA_R_KBD`: `IN 0x60` when kbc.auxb = 0 and kbc.outb = 1 (42_kbc.md R265). -/
  | kbcDataRKbd
  /-- `KBC_DATA_R_EMPTY`: `IN 0x60` when kbc.outb = 0 (42_kbc.md R266). -/
  | kbcDataREmpty
  /-- `KBC_ARG_CONFIG`: `OUT 0x60, data` when kbc.expecting_port60h = 1 and kbc.last_comm = 0x60 (42_kbc.md R289). -/
  | kbcArgConfig (data : Byte)
  /-- `KBC_ARG_OUTPORT`: `OUT 0x60, data` when kbc.expecting_port60h = 1 and kbc.last_comm = 0xD1 (42_kbc.md R290). -/
  | kbcArgOutport (data : Byte)
  /-- `KBC_ARG_KBD_OUTBUF`: `OUT 0x60, data` when kbc.expecting_port60h = 1 and kbc.last_comm = 0xD2 (42_kbc.md R291). -/
  | kbcArgKbdOutbuf (data : Byte)
  /-- `KBC_ARG_AUX_OUTBUF`: `OUT 0x60, data` when kbc.expecting_port60h = 1 and kbc.last_comm = 0xD3 (42_kbc.md R292). -/
  | kbcArgAuxOutbuf (data : Byte)
  /-- `KBC_ARG_TO_MOUSE`: `OUT 0x60, data` when kbc.expecting_port60h = 1 and kbc.last_comm = 0xD4 (42_kbc.md R293). -/
  | kbcArgToMouse (data : Byte)
  /-- `KBC_ARG_UNEXPECTED`: `OUT 0x60, data` when kbc.expecting_port60h = 1 and kbc.last_comm not in {0x60, 0xD1, 0xD2, 0xD3, 0xD4} (42_kbc.md R294). -/
  | kbcArgUnexpected (data : Byte)
  /-- `KBD_ARG_TYPEMATIC`: `OUT 0x60, data` when kbc.expecting_port60h = 0 and kbd.expecting_typematic = 1 (43_kbd_device.md R333). -/
  | kbdArgTypematic (data : Byte)
  /-- `KBD_ARG_LED`: `OUT 0x60, data` when kbc.expecting_port60h = 0 and kbd.expecting_led_write = 1 (43_kbd_device.md R334). -/
  | kbdArgLed (data : Byte)
  /-- `KBD_ARG_SCANCODE_SET`: `OUT 0x60, data` when kbc.expecting_port60h = 0 and kbd.expecting_scancode_set = 1 (43_kbd_device.md R335). -/
  | kbdArgScancodeSet (data : Byte)
  /-- `KBD_CMD_SET_LEDS`: `OUT 0x60, 0xED` when kbc.expecting_port60h = 0 and kbd.expecting_typematic = 0 and kbd.expecting_led_write = 0 and kbd.expecting_scancode_set = 0 (43_kbd_device.md R336). -/
  | kbdCmdSetLeds
  /-- `KBD_CMD_ECHO`: `OUT 0x60, 0xEE` when kbc.expecting_port60h = 0 and kbd.expecting_typematic = 0 and kbd.expecting_led_write = 0 and kbd.expecting_scancode_set = 0 (43_kbd_device.md R337). -/
  | kbdCmdEcho
  /-- `KBD_CMD_SELECT_SCANCODE_SET`: `OUT 0x60, 0xF0` when kbc.expecting_port60h = 0 and kbd.expecting_typematic = 0 and kbd.expecting_led_write = 0 and kbd.expecting_scancode_set = 0 (43_kbd_device.md R338). -/
  | kbdCmdSelectScancodeSet
  /-- `KBD_CMD_IDENTIFY`: `OUT 0x60, 0xF2` when kbc.expecting_port60h = 0 and kbd.expecting_typematic = 0 and kbd.expecting_led_write = 0 and kbd.expecting_scancode_set = 0 (43_kbd_device.md R339). -/
  | kbdCmdIdentify
  /-- `KBD_CMD_SET_TYPEMATIC`: `OUT 0x60, 0xF3` when kbc.expecting_port60h = 0 and kbd.expecting_typematic = 0 and kbd.expecting_led_write = 0 and kbd.expecting_scancode_set = 0 (43_kbd_device.md R340). -/
  | kbdCmdSetTypematic
  /-- `KBD_CMD_ENABLE_SCANNING`: `OUT 0x60, 0xF4` when kbc.expecting_port60h = 0 and kbd.expecting_typematic = 0 and kbd.expecting_led_write = 0 and kbd.expecting_scancode_set = 0 (43_kbd_device.md R341). -/
  | kbdCmdEnableScanning
  /-- `KBD_CMD_RESET_DISABLE`: `OUT 0x60, 0xF5` when kbc.expecting_port60h = 0 and kbd.expecting_typematic = 0 and kbd.expecting_led_write = 0 and kbd.expecting_scancode_set = 0 (43_kbd_device.md R342). -/
  | kbdCmdResetDisable
  /-- `KBD_CMD_RESET_ENABLE`: `OUT 0x60, 0xF6` when kbc.expecting_port60h = 0 and kbd.expecting_typematic = 0 and kbd.expecting_led_write = 0 and kbd.expecting_scancode_set = 0 (43_kbd_device.md R343). -/
  | kbdCmdResetEnable
  /-- `KBD_CMD_RESEND`: `OUT 0x60, 0xFE` when kbc.expecting_port60h = 0 and kbd.expecting_typematic = 0 and kbd.expecting_led_write = 0 and kbd.expecting_scancode_set = 0 (43_kbd_device.md R344). -/
  | kbdCmdResend
  /-- `KBD_CMD_RESET_BAT`: `OUT 0x60, 0xFF` when kbc.expecting_port60h = 0 and kbd.expecting_typematic = 0 and kbd.expecting_led_write = 0 and kbd.expecting_scancode_set = 0 (43_kbd_device.md R345). -/
  | kbdCmdResetBat
  /-- `KBD_CMD_UNRECOGNIZED`: `OUT 0x60, data` when kbc.expecting_port60h = 0 and kbd.expecting_typematic = 0 and kbd.expecting_led_write = 0 and kbd.expecting_scancode_set = 0 (43_kbd_device.md R346). -/
  | kbdCmdUnrecognized (data : Byte)
  /-- `INW`: `INW port` (20_memory.md R73). -/
  | inw (port : PortNo)
  /-- `OUTW`: `OUTW port, v` (20_memory.md R73). -/
  | outw (port : PortNo) (v : BitVec 16)
  /-- `IND`: `IND port` (20_memory.md R73). -/
  | ind (port : PortNo)
  /-- `OUTD`: `OUTD port, v` (20_memory.md R73). -/
  | outd (port : PortNo) (v : BitVec 32)
  /-- `setIRQ`: `IRQ+ n` (40_pic.md R143). -/
  | setIrq (n : BitVec 4)
  /-- `clearIRQ`: `IRQ- n` (40_pic.md R144). -/
  | clearIrq (n : BitVec 4)
  /-- `requestIRQNumber`: `requestIRQNumber(identity)` (40_pic.md R145). -/
  | requestIrqNumber (identity : Identity)
  /-- `interruptAcknowledge`: `INTA -> vector` (40_pic.md R163). -/
  | interruptAcknowledge
  /-- `registerChannel`: `REG g` (41_dma.md R200). -/
  | registerChannel (g : BitVec 32) (handler : Handler)
  /-- `setDMARequest`: `DRQ+ g / DRQ- g` (41_dma.md R204). -/
  | setDmaRequest (g : BitVec 3) (b : Bool)
  /-- `acknowledgeBusHold`: `HLDA` (41_dma.md R222). -/
  | acknowledgeBusHold
  /-- `update`: `TICK -> code` (42_kbc.md R297). -/
  | update
  /-- `keyEvent`: `KEY k, press / KEY k, release` (43_kbd_device.md R347). -/
  | keyEvent (key : BitVec 32) (type : KeyType) (side : KeySide)
  /-- `reset`: `RESET` (70_reset_and_hazards.md R421). -/
  | reset
  deriving DecidableEq, Repr

end Sys2Proof
end

