-- ==== Sys2Proof/Config.lean ====
section
/-! DEFINITION. The parameters of spec/00_scope.md R5: fixed values as definitions, values marked `OPEN` and values that
the spec leaves to a collaborator as opaque constants, of which nothing can be proved. -/

namespace Sys2Proof.Config

/-- `KBC_Q_NOMINAL` (R5): appends beyond it are logged, not rejected. -/
def kbcQueueNominal : Nat := 5

/-- `KBD_BUF_SLOTS` (R5). -/
def kbdBufferSlots : Nat := 16

/-- `PIC_SMM_SKIP_INSERVICE` (R5, D32): false, special mask lifts the in-service restriction whole. -/
def picSmmSkipInservice : Bool := false

/-- What a byte of physical memory that nothing has written reads as. DESIGN CHOICE, unsafe (notes/assumptions/8.md): the
spec has no reset contents of memory (10_state.md R54). -/
def memoryFill : Byte := 0x00

/-- `SCANCODE_TABLE(set, index, event)` (R5, OPEN; 43_kbd_device.md R347): free. -/
opaque scancodeTable : BitVec 2 → Int → KeyType → List Byte

/-- `XLAT8042(b)` (R5, OPEN; 43_kbd_device.md R348): free. -/
opaque xlat8042 : Byte → Byte

/-- `KEY_INDEX_ADJUST(key, side)` (R5, OPEN; 43_kbd_device.md R347): free. -/
opaque keyIndexAdjust : BitVec 32 → KeySide → Int

/-- `BUS_FAIL_READ_VALUE` (R5, OPEN): what the bus hands the CPU after a failed read; free. -/
opaque busFailReadValue : Byte

/-- The unit a DMA device hands over on its `n`-th call beyond what the model's supply list holds: the device's own
choice (00_scope.md R10), free (notes/assumptions/11.md). -/
opaque deviceUnit : Nat → Word

end Sys2Proof.Config
end

