-- ==== Sys2Proof/WellFormed.lean ====
section
/-! DEFINITION. Which terms of `Instr` are operations of the block: the data bytes a row's pattern admits
(spec/30_encoding.md R103, R104, R110, R111), the owned ports (spec/20_memory.md R71) and the identity codes. -/

namespace Sys2Proof

/-- The ports the block owns (20_memory.md R71): 0x00-0x0F, 0x80-0x8F, the even ports 0xC0-0xDE, the four PIC ports and
the two KBC ports. -/
def ownedPort (p : PortNo) : Bool :=
  p < 0x10#16 || (0x80#16 ≤ p && p ≤ 0x8F#16) || (0xC0#16 ≤ p && p ≤ 0xDE#16 && !p.getLsbD 0) ||
    [0x20#16, 0x21#16, 0xA0#16, 0xA1#16, 0x60#16, 0x64#16].contains p

/-- R103: bit 4 of a command-port byte selects ICW1. -/
def isIcw1 (data : Byte) : Bool := data.getLsbD 4

/-- R103: bits 4:3 = 01 select OCW3. -/
def isOcw3 (data : Byte) : Bool := !data.getLsbD 4 && data.getLsbD 3

/-- R104, last row: bits 4:3 = 00 and none of the byte values the table lists. -/
def isReservedOcw2 (data : Byte) : Bool :=
  !data.getLsbD 4 && !data.getLsbD 3 &&
    !([0x20#8, 0xA0#8, 0x40#8, 0x80#8, 0x00#8].contains data ||
      [0x60#8, 0xE0#8, 0xC0#8].contains (data &&& 0xF8#8))

/-- R110: 0xF0 to 0xFD and 0xFF. -/
def isPulse (data : Byte) : Bool := 0xF0#8 ≤ data && data != 0xFE#8

/-- The bytes that R110 lists one by one. -/
def controllerCommands : List Byte :=
  [0x20, 0x60, 0xA7, 0xA8, 0xA9, 0xAA, 0xAB, 0xAD, 0xAE, 0xD0, 0xD1, 0xD2, 0xD3, 0xD4, 0xDD, 0xDF, 0xFE]

/-- The bytes that R111's second table lists one by one. -/
def keyboardCommands : List Byte :=
  [0xED, 0xEE, 0xF0, 0xF2, 0xF3, 0xF4, 0xF5, 0xF6, 0xFE, 0xFF]

/-- An `other` identity has a code that none of the ten known identities has (notes/assumptions/3.md). -/
def knownOrOther : Identity → Bool
  | .other code => 10#32 ≤ code
  | .pit | .keyboard | .serial | .floppy | .rtc | .mouse | .ata0 | .ata1 | .ata2 | .ata3 => true

/-- The terms that stand for an operation of the block. -/
def wellFormed (i : Instr) : Bool :=
  match i with
  | .pic0Icw1 data => isIcw1 data
  | .pic0Ocw3 data => isOcw3 data
  | .pic0Eoi | .pic0EoiRotate | .pic0Seoi _ | .pic0SeoiRotate _ | .pic0SetPriority _ | .pic0Ocw2Nop
  | .pic0RotAeoiSet | .pic0RotAeoiClr => true
  | .pic0Ocw2Reserved data => isReservedOcw2 data
  | .pic0Icw2 _ | .pic0Icw3 _ | .pic0Icw4 _ | .pic0Ocw1 _ | .pic0ReadCmd | .pic0ReadMask | .pic0PollCmd
  | .pic0PollMask => true
  | .pic1Icw1 data => isIcw1 data
  | .pic1Ocw3 data => isOcw3 data
  | .pic1Eoi | .pic1EoiRotate | .pic1Seoi _ | .pic1SeoiRotate _ | .pic1SetPriority _ | .pic1Ocw2Nop
  | .pic1RotAeoiSet | .pic1RotAeoiClr => true
  | .pic1Ocw2Reserved data => isReservedOcw2 data
  | .pic1Icw2 _ | .pic1Icw3 _ | .pic1Icw4 _ | .pic1Ocw1 _ | .pic1ReadCmd | .pic1ReadMask | .pic1PollCmd
  | .pic1PollMask | .dma0Addr0W _ | .dma0Addr0R | .dma0Count0W _ | .dma0Count0R | .dma0Addr1W _ | .dma0Addr1R
  | .dma0Count1W _ | .dma0Count1R | .dma0Addr2W _ | .dma0Addr2R | .dma0Count2W _ | .dma0Count2R | .dma0Addr3W _
  | .dma0Addr3R | .dma0Count3W _ | .dma0Count3R | .dma0CommandW _ | .dma0StatusR | .dma0RequestW _
  | .dma0SingleMaskW _ | .dma0ModeW _ | .dma0ClearFlipflop _ | .dma0MasterClear _ | .dma0ClearMask _
  | .dma0FullMaskW _ | .dma0WriteOnlyR9 | .dma0WriteOnlyRA | .dma0WriteOnlyRB | .dma0WriteOnlyRC
  | .dma0WriteOnlyRD | .dma0WriteOnlyRE | .dma0WriteOnlyRF | .dma1Addr0W _ | .dma1Addr0R | .dma1Count0W _
  | .dma1Count0R | .dma1Addr1W _ | .dma1Addr1R | .dma1Count1W _ | .dma1Count1R | .dma1Addr2W _ | .dma1Addr2R
  | .dma1Count2W _ | .dma1Count2R | .dma1Addr3W _ | .dma1Addr3R | .dma1Count3W _ | .dma1Count3R
  | .dma1CommandW _ | .dma1StatusR | .dma1RequestW _ | .dma1SingleMaskW _ | .dma1ModeW _ | .dma1ClearFlipflop _
  | .dma1MasterClear _ | .dma1ClearMask _ | .dma1FullMaskW _ | .dma1WriteOnlyR9 | .dma1WriteOnlyRA
  | .dma1WriteOnlyRB | .dma1WriteOnlyRC | .dma1WriteOnlyRD | .dma1WriteOnlyRE | .dma1WriteOnlyRF
  | .dmaPageG0W _ | .dmaPageG0R | .dmaPageG1W _ | .dmaPageG1R | .dmaPageG2W _ | .dmaPageG2R | .dmaPageG3W _
  | .dmaPageG3R | .dmaPageG4W _ | .dmaPageG4R | .dmaPageG5W _ | .dmaPageG5R | .dmaPageG6W _ | .dmaPageG6R
  | .dmaPageG7W _ | .dmaPageG7R | .dmaExtpage80W _ | .dmaExtpage80R | .dmaExtpage84W _ | .dmaExtpage84R
  | .dmaExtpage85W _ | .dmaExtpage85R | .dmaExtpage86W _ | .dmaExtpage86R | .dmaExtpage88W _ | .dmaExtpage88R
  | .dmaExtpage8CW _ | .dmaExtpage8CR | .dmaExtpage8DW _ | .dmaExtpage8DR | .dmaExtpage8EW _ | .dmaExtpage8ER
  | .kbcCmdReadConfig | .kbcCmdWriteConfig | .kbcCmdAuxDisable | .kbcCmdAuxEnable | .kbcCmdAuxTest
  | .kbcCmdSelfTest | .kbcCmdKbdIfTest | .kbcCmdKbdDisable | .kbcCmdKbdEnable | .kbcCmdReadOutport
  | .kbcCmdWriteOutport | .kbcCmdWriteKbdOutbuf | .kbcCmdWriteAuxOutbuf | .kbcCmdWriteToMouse
  | .kbcCmdA20Disable | .kbcCmdA20Enable | .kbcCmdSystemResetUnimpl => true
  | .kbcCmdPulseNop data => isPulse data
  | .kbcCmdUnsupported data => !(isPulse data || controllerCommands.contains data)
  | .kbcStatusR | .kbcDataRAux | .kbcDataRKbd | .kbcDataREmpty | .kbcArgConfig _ | .kbcArgOutport _
  | .kbcArgKbdOutbuf _ | .kbcArgAuxOutbuf _ | .kbcArgToMouse _ | .kbcArgUnexpected _ | .kbdArgTypematic _
  | .kbdArgLed _ | .kbdArgScancodeSet _ | .kbdCmdSetLeds | .kbdCmdEcho | .kbdCmdSelectScancodeSet
  | .kbdCmdIdentify | .kbdCmdSetTypematic | .kbdCmdEnableScanning | .kbdCmdResetDisable | .kbdCmdResetEnable
  | .kbdCmdResend | .kbdCmdResetBat => true
  | .kbdCmdUnrecognized data => !keyboardCommands.contains data
  | .inw port => ownedPort port
  | .outw port _ => ownedPort port
  | .ind port => ownedPort port
  | .outd port _ => ownedPort port
  | .setIrq _ | .clearIrq _ => true
  | .requestIrqNumber identity => knownOrOther identity
  | .interruptAcknowledge | .registerChannel _ _ | .setDmaRequest _ _ | .acknowledgeBusHold | .update
  | .keyEvent _ _ _ | .reset => true

end Sys2Proof
end

