-- ==== Sys2Proof/Decode.lean ====
section
/-! DEFINITION. The decoder (spec/30_encoding.md R100 to R117): from an operation packet, and the state bits that choose
between tables (R112), to an instruction or a rejection by name. After it, the encoder. -/

namespace Sys2Proof

/-- Why a packet is no operation of the block. -/
inductive DecodeError where
  /-- Bits 31:28 of the first word are not 0; R117 gives the table word 28 bits. -/
  | reservedBits
  /-- Classes 3 to 6 are unused (R117). -/
  | unusedClass (cls : BitVec 3)
  /-- The port is not one of the block's (20_memory.md R71); the access does not reach the block (R70, U28). -/
  | unownedPort (port : PortNo)
  /-- A class-7 word that is none of the ten signals of R117. -/
  | unknownSignal (selector : Byte)
  /-- An operand word that the operation does not have, or bits of one it does not use, are not 0
  (the packet's layout, notes/assumptions/3.md). -/
  | unusedOperandBits
  /-- An argument outside the range of R101 (`n` in 0..15, `g` in 0..7): not an operation of the block (U12). -/
  | argumentOutOfRange
  deriving DecidableEq, Repr

/-- The fields of an operation packet (R100, R117), and its two operand words. -/
structure Fields where
  high : BitVec 4
  cls : BitVec 3
  write : Bool
  port : PortNo
  data : Byte
  argA : BitVec 32
  argB : BitVec 32
  deriving DecidableEq, Repr

/-- The bits of a packet: data 7:0, port 23:8, w 24, class 27:25 (R117), 31:28 zero, operand words 63:32 and 95:64. -/
def pack (f : Fields) : Packet :=
  f.argB ++ f.argA ++ f.high ++ f.cls ++ BitVec.ofBool f.write ++ f.port ++ f.data

/-- The fields at the places `pack` gives them. -/
def unpack (p : Packet) : Fields where
  high := p.extractLsb' 28 4
  cls := p.extractLsb' 25 3
  write := p.getLsbD 24
  port := p.extractLsb' 8 16
  data := p.extractLsb' 0 8
  argA := p.extractLsb' 32 32
  argB := p.extractLsb' 64 32

/-- The state bits that choose between tables for the same port and direction (R112). The DMA flip-flop chooses a half
inside one rule, not a row, and stays in the state. -/
structure DecodeCtx where
  masterIcw : Option IcwWord
  slaveIcw : Option IcwWord
  masterPolled : Bool
  slavePolled : Bool
  auxb : Bool
  outb : Bool
  expecting : Bool
  lastComm : Byte
  typematic : Bool
  led : Bool
  scancodeSet : Bool
  deriving DecidableEq, Repr

/-- Which ICW the mask port of `p` takes next; `none` outside an initialization sequence. -/
def DecodeCtx.icw (c : DecodeCtx) : PicId → Option IcwWord
  | .master => c.masterIcw
  | .slave => c.slaveIcw

/-- Whether the next read of controller `p` is a poll. -/
def DecodeCtx.polled (c : DecodeCtx) : PicId → Bool
  | .master => c.masterPolled
  | .slave => c.slavePolled

/-- A byte written to port 0x60 is a command of the keyboard device (R111, R112). -/
def DecodeCtx.deviceCommand (c : DecodeCtx) : Bool :=
  !c.expecting && !c.typematic && !c.led && !c.scancodeSet

/-- The context of the reset state (10_state.md R50, R52, R53). -/
def resetCtx : DecodeCtx where
  masterIcw := none
  slaveIcw := none
  masterPolled := false
  slavePolled := false
  auxb := false
  outb := false
  expecting := false
  lastComm := 0x00
  typematic := false
  led := false
  scancodeSet := false

/-! ## The rows of both controllers of a pair, and of every channel -/

namespace Row

def icw1 (c : PicId) (data : Byte) : Instr :=
  match c with
  | .master => .pic0Icw1 data
  | .slave => .pic1Icw1 data

def ocw3 (c : PicId) (data : Byte) : Instr :=
  match c with
  | .master => .pic0Ocw3 data
  | .slave => .pic1Ocw3 data

def eoi (c : PicId) : Instr :=
  match c with
  | .master => .pic0Eoi
  | .slave => .pic1Eoi

def eoiRotate (c : PicId) : Instr :=
  match c with
  | .master => .pic0EoiRotate
  | .slave => .pic1EoiRotate

def seoi (c : PicId) (level : Input) : Instr :=
  match c with
  | .master => .pic0Seoi level
  | .slave => .pic1Seoi level

def seoiRotate (c : PicId) (level : Input) : Instr :=
  match c with
  | .master => .pic0SeoiRotate level
  | .slave => .pic1SeoiRotate level

def setPriority (c : PicId) (level : Input) : Instr :=
  match c with
  | .master => .pic0SetPriority level
  | .slave => .pic1SetPriority level

def ocw2Nop (c : PicId) : Instr :=
  match c with
  | .master => .pic0Ocw2Nop
  | .slave => .pic1Ocw2Nop

def rotAeoiSet (c : PicId) : Instr :=
  match c with
  | .master => .pic0RotAeoiSet
  | .slave => .pic1RotAeoiSet

def rotAeoiClr (c : PicId) : Instr :=
  match c with
  | .master => .pic0RotAeoiClr
  | .slave => .pic1RotAeoiClr

def ocw2Reserved (c : PicId) (data : Byte) : Instr :=
  match c with
  | .master => .pic0Ocw2Reserved data
  | .slave => .pic1Ocw2Reserved data

def icw2 (c : PicId) (data : Byte) : Instr :=
  match c with
  | .master => .pic0Icw2 data
  | .slave => .pic1Icw2 data

def icw3 (c : PicId) (data : Byte) : Instr :=
  match c with
  | .master => .pic0Icw3 data
  | .slave => .pic1Icw3 data

def icw4 (c : PicId) (data : Byte) : Instr :=
  match c with
  | .master => .pic0Icw4 data
  | .slave => .pic1Icw4 data

def ocw1 (c : PicId) (data : Byte) : Instr :=
  match c with
  | .master => .pic0Ocw1 data
  | .slave => .pic1Ocw1 data

def readCmd (c : PicId) : Instr :=
  match c with
  | .master => .pic0ReadCmd
  | .slave => .pic1ReadCmd

def readMask (c : PicId) : Instr :=
  match c with
  | .master => .pic0ReadMask
  | .slave => .pic1ReadMask

def pollCmd (c : PicId) : Instr :=
  match c with
  | .master => .pic0PollCmd
  | .slave => .pic1PollCmd

def pollMask (c : PicId) : Instr :=
  match c with
  | .master => .pic0PollMask
  | .slave => .pic1PollMask

def addrW (d : DmaId) (j : Chan) (data : Byte) : Instr :=
  match d, j with
  | .dma0, .c0 => .dma0Addr0W data
  | .dma0, .c1 => .dma0Addr1W data
  | .dma0, .c2 => .dma0Addr2W data
  | .dma0, .c3 => .dma0Addr3W data
  | .dma1, .c0 => .dma1Addr0W data
  | .dma1, .c1 => .dma1Addr1W data
  | .dma1, .c2 => .dma1Addr2W data
  | .dma1, .c3 => .dma1Addr3W data

def addrR (d : DmaId) (j : Chan) : Instr :=
  match d, j with
  | .dma0, .c0 => .dma0Addr0R
  | .dma0, .c1 => .dma0Addr1R
  | .dma0, .c2 => .dma0Addr2R
  | .dma0, .c3 => .dma0Addr3R
  | .dma1, .c0 => .dma1Addr0R
  | .dma1, .c1 => .dma1Addr1R
  | .dma1, .c2 => .dma1Addr2R
  | .dma1, .c3 => .dma1Addr3R

def countW (d : DmaId) (j : Chan) (data : Byte) : Instr :=
  match d, j with
  | .dma0, .c0 => .dma0Count0W data
  | .dma0, .c1 => .dma0Count1W data
  | .dma0, .c2 => .dma0Count2W data
  | .dma0, .c3 => .dma0Count3W data
  | .dma1, .c0 => .dma1Count0W data
  | .dma1, .c1 => .dma1Count1W data
  | .dma1, .c2 => .dma1Count2W data
  | .dma1, .c3 => .dma1Count3W data

def countR (d : DmaId) (j : Chan) : Instr :=
  match d, j with
  | .dma0, .c0 => .dma0Count0R
  | .dma0, .c1 => .dma0Count1R
  | .dma0, .c2 => .dma0Count2R
  | .dma0, .c3 => .dma0Count3R
  | .dma1, .c0 => .dma1Count0R
  | .dma1, .c1 => .dma1Count1R
  | .dma1, .c2 => .dma1Count2R
  | .dma1, .c3 => .dma1Count3R

def commandW (d : DmaId) (data : Byte) : Instr :=
  match d with
  | .dma0 => .dma0CommandW data
  | .dma1 => .dma1CommandW data

def statusR (d : DmaId) : Instr :=
  match d with
  | .dma0 => .dma0StatusR
  | .dma1 => .dma1StatusR

def requestW (d : DmaId) (data : Byte) : Instr :=
  match d with
  | .dma0 => .dma0RequestW data
  | .dma1 => .dma1RequestW data

def singleMaskW (d : DmaId) (data : Byte) : Instr :=
  match d with
  | .dma0 => .dma0SingleMaskW data
  | .dma1 => .dma1SingleMaskW data

def modeW (d : DmaId) (data : Byte) : Instr :=
  match d with
  | .dma0 => .dma0ModeW data
  | .dma1 => .dma1ModeW data

def clearFlipflop (d : DmaId) (data : Byte) : Instr :=
  match d with
  | .dma0 => .dma0ClearFlipflop data
  | .dma1 => .dma1ClearFlipflop data

def masterClear (d : DmaId) (data : Byte) : Instr :=
  match d with
  | .dma0 => .dma0MasterClear data
  | .dma1 => .dma1MasterClear data

def clearMask (d : DmaId) (data : Byte) : Instr :=
  match d with
  | .dma0 => .dma0ClearMask data
  | .dma1 => .dma1ClearMask data

def fullMaskW (d : DmaId) (data : Byte) : Instr :=
  match d with
  | .dma0 => .dma0FullMaskW data
  | .dma1 => .dma1FullMaskW data

def writeOnly9 (d : DmaId) : Instr :=
  match d with
  | .dma0 => .dma0WriteOnlyR9
  | .dma1 => .dma1WriteOnlyR9

def writeOnlyA (d : DmaId) : Instr :=
  match d with
  | .dma0 => .dma0WriteOnlyRA
  | .dma1 => .dma1WriteOnlyRA

def writeOnlyB (d : DmaId) : Instr :=
  match d with
  | .dma0 => .dma0WriteOnlyRB
  | .dma1 => .dma1WriteOnlyRB

def writeOnlyC (d : DmaId) : Instr :=
  match d with
  | .dma0 => .dma0WriteOnlyRC
  | .dma1 => .dma1WriteOnlyRC

def writeOnlyD (d : DmaId) : Instr :=
  match d with
  | .dma0 => .dma0WriteOnlyRD
  | .dma1 => .dma1WriteOnlyRD

def writeOnlyE (d : DmaId) : Instr :=
  match d with
  | .dma0 => .dma0WriteOnlyRE
  | .dma1 => .dma1WriteOnlyRE

def writeOnlyF (d : DmaId) : Instr :=
  match d with
  | .dma0 => .dma0WriteOnlyRF
  | .dma1 => .dma1WriteOnlyRF

def pageW (d : DmaId) (j : Chan) (data : Byte) : Instr :=
  match d, j with
  | .dma0, .c0 => .dmaPageG0W data
  | .dma0, .c1 => .dmaPageG1W data
  | .dma0, .c2 => .dmaPageG2W data
  | .dma0, .c3 => .dmaPageG3W data
  | .dma1, .c0 => .dmaPageG4W data
  | .dma1, .c1 => .dmaPageG5W data
  | .dma1, .c2 => .dmaPageG6W data
  | .dma1, .c3 => .dmaPageG7W data

def pageR (d : DmaId) (j : Chan) : Instr :=
  match d, j with
  | .dma0, .c0 => .dmaPageG0R
  | .dma0, .c1 => .dmaPageG1R
  | .dma0, .c2 => .dmaPageG2R
  | .dma0, .c3 => .dmaPageG3R
  | .dma1, .c0 => .dmaPageG4R
  | .dma1, .c1 => .dmaPageG5R
  | .dma1, .c2 => .dmaPageG6R
  | .dma1, .c3 => .dmaPageG7R

def extW (x : ExtSlot) (data : Byte) : Instr :=
  match x with
  | .x80 => .dmaExtpage80W data
  | .x84 => .dmaExtpage84W data
  | .x85 => .dmaExtpage85W data
  | .x86 => .dmaExtpage86W data
  | .x88 => .dmaExtpage88W data
  | .x8C => .dmaExtpage8CW data
  | .x8D => .dmaExtpage8DW data
  | .x8E => .dmaExtpage8EW data

def extR (x : ExtSlot) : Instr :=
  match x with
  | .x80 => .dmaExtpage80R
  | .x84 => .dmaExtpage84R
  | .x85 => .dmaExtpage85R
  | .x86 => .dmaExtpage86R
  | .x88 => .dmaExtpage88R
  | .x8C => .dmaExtpage8CR
  | .x8D => .dmaExtpage8DR
  | .x8E => .dmaExtpage8ER

end Row

/-! ## Ports and registers -/

/-- A DMA controller's sixteen registers (R107). -/
inductive DmaReg where
  | addr (j : Chan)
  | count (j : Chan)
  | commandStatus
  | request
  | singleMask
  | mode
  | clearFlipflop
  | masterClear
  | clearMask
  | fullMask
  deriving DecidableEq, Repr

/-- The register of index `k` (R107). -/
def dmaReg (k : BitVec 4) : DmaReg :=
  match k.toNat with
  | 0x0 => .addr .c0
  | 0x1 => .count .c0
  | 0x2 => .addr .c1
  | 0x3 => .count .c1
  | 0x4 => .addr .c2
  | 0x5 => .count .c2
  | 0x6 => .addr .c3
  | 0x7 => .count .c3
  | 0x8 => .commandStatus
  | 0x9 => .request
  | 0xA => .singleMask
  | 0xB => .mode
  | 0xC => .clearFlipflop
  | 0xD => .masterClear
  | 0xE => .clearMask
  | _ => .fullMask

/-- What a port of 0x80 to 0x8F holds (R109): a channel's page register or an extra slot. -/
inductive PageReg where
  | page (d : DmaId) (j : Chan)
  | ext (x : ExtSlot)
  deriving DecidableEq, Repr

/-- The page register at port 0x80 + `k` (R109). -/
def pageReg (k : BitVec 4) : PageReg :=
  match k.toNat with
  | 0x0 => .ext .x80
  | 0x1 => .page .dma0 .c2
  | 0x2 => .page .dma0 .c3
  | 0x3 => .page .dma0 .c1
  | 0x4 => .ext .x84
  | 0x5 => .ext .x85
  | 0x6 => .ext .x86
  | 0x7 => .page .dma0 .c0
  | 0x8 => .ext .x88
  | 0x9 => .page .dma1 .c2
  | 0xA => .page .dma1 .c3
  | 0xB => .page .dma1 .c1
  | 0xC => .ext .x8C
  | 0xD => .ext .x8D
  | 0xE => .ext .x8E
  | _ => .page .dma1 .c0

/-- What an owned port addresses (20_memory.md R71). -/
inductive PortReg where
  | picCommand (c : PicId)
  | picMask (c : PicId)
  | dma (d : DmaId) (r : DmaReg)
  | page (r : PageReg)
  | kbcData
  | kbcCommand
  deriving DecidableEq, Repr

/-- 20_memory.md R71, R72: the owner of a port, `none` for a port the block does not own. -/
def portReg (p : PortNo) : Option PortReg :=
  if p = 0x20 then some (.picCommand .master)
  else if p = 0x21 then some (.picMask .master)
  else if p = 0xA0 then some (.picCommand .slave)
  else if p = 0xA1 then some (.picMask .slave)
  else if p = 0x60 then some .kbcData
  else if p = 0x64 then some .kbcCommand
  else if p.extractLsb' 4 12 = 0x000 then some (.dma .dma0 (dmaReg (p.extractLsb' 0 4)))
  else if p.extractLsb' 4 12 = 0x008 then some (.page (pageReg (p.extractLsb' 0 4)))
  else if p.extractLsb' 5 11 = 0b110 ∧ p.getLsbD 0 = false then some (.dma .dma1 (dmaReg (p.extractLsb' 1 4)))
  else none

/-! ## Byte accesses -/

/-- R104: an OCW2 byte (bits 4:3 = 00), selected by the exact byte. -/
def decodeOcw2 (c : PicId) (data : Byte) : Instr :=
  if data = 0x20 then Row.eoi c
  else if data = 0xA0 then Row.eoiRotate c
  else if data.extractLsb' 3 5 = 0b01100 then Row.seoi c (data.extractLsb' 0 3)
  else if data.extractLsb' 3 5 = 0b11100 then Row.seoiRotate c (data.extractLsb' 0 3)
  else if data.extractLsb' 3 5 = 0b11000 then Row.setPriority c (data.extractLsb' 0 3)
  else if data = 0x40 then Row.ocw2Nop c
  else if data = 0x80 then Row.rotAeoiSet c
  else if data = 0x00 then Row.rotAeoiClr c
  else Row.ocw2Reserved c data

/-- R103: a PIC command-port write, classified by bit 4 and then bit 3. -/
def decodePicCommand (c : PicId) (data : Byte) : Instr :=
  if data.getLsbD 4 then Row.icw1 c data
  else if data.getLsbD 3 then Row.ocw3 c data
  else decodeOcw2 c data

/-- R106, R112: a PIC mask-port write. -/
def decodePicMask (ctx : DecodeCtx) (c : PicId) (data : Byte) : Instr :=
  match ctx.icw c with
  | some .icw2 => Row.icw2 c data
  | some .icw3 => Row.icw3 c data
  | some .icw4 => Row.icw4 c data
  | none => Row.ocw1 c data

/-- R107, write column. -/
def decodeDmaWrite (d : DmaId) (r : DmaReg) (data : Byte) : Instr :=
  match r with
  | .addr j => Row.addrW d j data
  | .count j => Row.countW d j data
  | .commandStatus => Row.commandW d data
  | .request => Row.requestW d data
  | .singleMask => Row.singleMaskW d data
  | .mode => Row.modeW d data
  | .clearFlipflop => Row.clearFlipflop d data
  | .masterClear => Row.masterClear d data
  | .clearMask => Row.clearMask d data
  | .fullMask => Row.fullMaskW d data

/-- R107, read column. -/
def decodeDmaRead (d : DmaId) (r : DmaReg) : Instr :=
  match r with
  | .addr j => Row.addrR d j
  | .count j => Row.countR d j
  | .commandStatus => Row.statusR d
  | .request => Row.writeOnly9 d
  | .singleMask => Row.writeOnlyA d
  | .mode => Row.writeOnlyB d
  | .clearFlipflop => Row.writeOnlyC d
  | .masterClear => Row.writeOnlyD d
  | .clearMask => Row.writeOnlyE d
  | .fullMask => Row.writeOnlyF d

/-- R110: a write to port 0x64, selected by the exact byte. -/
def decodeKbcCommand (data : Byte) : Instr :=
  match data.toNat with
  | 0x20 => .kbcCmdReadConfig
  | 0x60 => .kbcCmdWriteConfig
  | 0xA7 => .kbcCmdAuxDisable
  | 0xA8 => .kbcCmdAuxEnable
  | 0xA9 => .kbcCmdAuxTest
  | 0xAA => .kbcCmdSelfTest
  | 0xAB => .kbcCmdKbdIfTest
  | 0xAD => .kbcCmdKbdDisable
  | 0xAE => .kbcCmdKbdEnable
  | 0xD0 => .kbcCmdReadOutport
  | 0xD1 => .kbcCmdWriteOutport
  | 0xD2 => .kbcCmdWriteKbdOutbuf
  | 0xD3 => .kbcCmdWriteAuxOutbuf
  | 0xD4 => .kbcCmdWriteToMouse
  | 0xDD => .kbcCmdA20Disable
  | 0xDF => .kbcCmdA20Enable
  | 0xFE => .kbcCmdSystemResetUnimpl
  | _ => if 0xF0 ≤ data then .kbcCmdPulseNop data else .kbcCmdUnsupported data

/-- The commands whose argument the next write to port 0x60 is (R111). -/
def argumentCommands : List Byte := [0x60, 0xD1, 0xD2, 0xD3, 0xD4]

/-- R111: a write to port 0x60 while an argument is expected, by `kbc.last_comm`. -/
def decodeKbcArgument (lastComm data : Byte) : Instr :=
  match lastComm.toNat with
  | 0x60 => .kbcArgConfig data
  | 0xD1 => .kbcArgOutport data
  | 0xD2 => .kbcArgKbdOutbuf data
  | 0xD3 => .kbcArgAuxOutbuf data
  | 0xD4 => .kbcArgToMouse data
  | _ => .kbcArgUnexpected data

/-- R111, second table: a command byte for the keyboard device. -/
def decodeKbdCommand (data : Byte) : Instr :=
  match data.toNat with
  | 0xED => .kbdCmdSetLeds
  | 0xEE => .kbdCmdEcho
  | 0xF0 => .kbdCmdSelectScancodeSet
  | 0xF2 => .kbdCmdIdentify
  | 0xF3 => .kbdCmdSetTypematic
  | 0xF4 => .kbdCmdEnableScanning
  | 0xF5 => .kbdCmdResetDisable
  | 0xF6 => .kbdCmdResetEnable
  | 0xFE => .kbdCmdResend
  | 0xFF => .kbdCmdResetBat
  | _ => .kbdCmdUnrecognized data

/-- R111, R112 and 43_kbd_device.md R332: a write to port 0x60. -/
def decodeKbcData (ctx : DecodeCtx) (data : Byte) : Instr :=
  if ctx.expecting then decodeKbcArgument ctx.lastComm data
  else if ctx.typematic then .kbdArgTypematic data
  else if ctx.led then .kbdArgLed data
  else if ctx.scancodeSet then .kbdArgScancodeSet data
  else decodeKbdCommand data

/-- A byte write to an owned port: total (R102, R114). -/
def decodeWrite (ctx : DecodeCtx) (r : PortReg) (data : Byte) : Instr :=
  match r with
  | .picCommand c => decodePicCommand c data
  | .picMask c => decodePicMask ctx c data
  | .dma d r => decodeDmaWrite d r data
  | .page (.page d j) => Row.pageW d j data
  | .page (.ext x) => Row.extW x data
  | .kbcData => decodeKbcData ctx data
  | .kbcCommand => decodeKbcCommand data

/-- A byte read of an owned port: total (R102, R112). -/
def decodeRead (ctx : DecodeCtx) (r : PortReg) : Instr :=
  match r with
  | .picCommand c => if ctx.polled c then Row.pollCmd c else Row.readCmd c
  | .picMask c => if ctx.polled c then Row.pollMask c else Row.readMask c
  | .dma d r => decodeDmaRead d r
  | .page (.page d j) => Row.pageR d j
  | .page (.ext x) => Row.extR x
  | .kbcData => if ctx.auxb then .kbcDataRAux else if ctx.outb then .kbcDataRKbd else .kbcDataREmpty
  | .kbcCommand => .kbcStatusR

/-! ## Wide accesses and signals -/

/-- R73, R101, R117: a word or doubleword access to an owned port, decoded by width and direction alone. -/
def decodeWide (f : Fields) : Except DecodeError Instr :=
  if (portReg f.port).isNone then .error (.unownedPort f.port)
  else if f.argB ≠ 0 then .error .unusedOperandBits
  else if f.cls = 1 then
    if f.write then
      if f.argA.extractLsb' 16 16 = 0 then .ok (.outw f.port (f.argA.extractLsb' 0 16)) else .error .unusedOperandBits
    else if f.argA = 0 then .ok (.inw f.port) else .error .unusedOperandBits
  else
    if f.write then .ok (.outd f.port f.argA)
    else if f.argA = 0 then .ok (.ind f.port) else .error .unusedOperandBits

/-- The registry's identity behind a code (40_pic.md R145; the codes are the packet's, notes/assumptions/3.md). -/
def identityOf (code : BitVec 32) : Identity :=
  match code.toNat with
  | 0 => .pit
  | 1 => .keyboard
  | 2 => .serial
  | 3 => .floppy
  | 4 => .rtc
  | 5 => .mouse
  | 6 => .ata0
  | 7 => .ata1
  | 8 => .ata2
  | 9 => .ata3
  | _ => .other code

/-- The side field of a key event's operand word (notes/assumptions/3.md). -/
def keySideOf (v : BitVec 2) : KeySide :=
  match v.toNat with
  | 0 => .standard
  | 1 => .left
  | 2 => .right
  | _ => .numpad

/-- R117: the ten signals, by selector; their arguments (R101) are in the operand words. -/
def decodeSignal (f : Fields) : Except DecodeError Instr :=
  match f.data.toNat with
  | 0 =>
    if f.argB ≠ 0 then .error .unusedOperandBits
    else if 16 ≤ f.argA then .error .argumentOutOfRange
    else .ok (.setIrq (f.argA.extractLsb' 0 4))
  | 1 =>
    if f.argB ≠ 0 then .error .unusedOperandBits
    else if 16 ≤ f.argA then .error .argumentOutOfRange
    else .ok (.clearIrq (f.argA.extractLsb' 0 4))
  | 2 => if f.argB ≠ 0 then .error .unusedOperandBits else .ok (.requestIrqNumber (identityOf f.argA))
  | 3 => if f.argA ≠ 0 ∨ f.argB ≠ 0 then .error .unusedOperandBits else .ok .interruptAcknowledge
  | 4 =>
    if f.argB.extractLsb' 2 30 ≠ 0 then .error .unusedOperandBits
    else .ok (.registerChannel f.argA ⟨!f.argB.getLsbD 0, !f.argB.getLsbD 1⟩)
  | 5 =>
    if f.argB.extractLsb' 1 31 ≠ 0 then .error .unusedOperandBits
    else if 8 ≤ f.argA then .error .argumentOutOfRange
    else .ok (.setDmaRequest (f.argA.extractLsb' 0 3) (f.argB.getLsbD 0))
  | 6 => if f.argA ≠ 0 ∨ f.argB ≠ 0 then .error .unusedOperandBits else .ok .acknowledgeBusHold
  | 7 => if f.argA ≠ 0 ∨ f.argB ≠ 0 then .error .unusedOperandBits else .ok .update
  | 8 =>
    if f.argB.extractLsb' 3 29 ≠ 0 then .error .unusedOperandBits
    else .ok (.keyEvent f.argA (if f.argB.getLsbD 0 then .release else .press) (keySideOf (f.argB.extractLsb' 1 2)))
  | 9 => if f.argA ≠ 0 ∨ f.argB ≠ 0 then .error .unusedOperandBits else .ok .reset
  | _ => .error (.unknownSignal f.data)

/-! ## The decoder -/

/-- R102, R117 over the fields: the class selects the format, then the port, the direction, the data byte and, where R112
says so, the context. -/
def decodeFields (ctx : DecodeCtx) (f : Fields) : Except DecodeError Instr :=
  if f.high ≠ 0 then .error .reservedBits
  else if f.cls = 0 then
    match portReg f.port with
    | none => .error (.unownedPort f.port)
    | some r =>
      if f.argA ≠ 0 ∨ f.argB ≠ 0 then .error .unusedOperandBits
      else .ok (if f.write then decodeWrite ctx r f.data else decodeRead ctx r)
  else if f.cls = 1 ∨ f.cls = 2 then decodeWide f
  else if f.cls = 7 then
    if f.write ∨ f.port ≠ 0 then .error (.unknownSignal f.data) else decodeSignal f
  else .error (.unusedClass f.cls)

/-- The operation a packet stands for in a context: total, rejecting by name. -/
def decode (ctx : DecodeCtx) (p : Packet) : Except DecodeError Instr := decodeFields ctx (unpack p)

/-- The packet whose low `nbits` bits are `w` and whose every other bit is 0. -/
def tablePacket (nbits w : Nat) : Packet := BitVec.ofNat 96 (w % 2 ^ nbits)

/-- What the decoder reads from a word of spec/opcode_table.json in the reset state's context (R112; where several rows
share one word, the row whose condition holds at reset: notes/assumptions/4.md). -/
def decodeTableWord (nbits w : Nat) : Option Instr :=
  match decode resetCtx (tablePacket nbits w) with
  | .ok i => some i
  | .error _ => none

/-! ## The encoder -/

/-- A byte read (R100). -/
def inWord (port : PortNo) : Fields := ⟨0, 0, false, port, 0, 0, 0⟩

/-- A byte write (R100). -/
def outWord (port : PortNo) (data : Byte) : Fields := ⟨0, 0, true, port, data, 0, 0⟩

/-- A word or doubleword access (R117), with the value written in the first operand word. -/
def wideWord (cls : BitVec 3) (write : Bool) (port : PortNo) (v : BitVec 32) : Fields := ⟨0, cls, write, port, 0, v, 0⟩

/-- A signal (R117), with its arguments in the operand words. -/
def sigWord (selector : Byte) (argA argB : BitVec 32) : Fields := ⟨0, 7, false, 0, selector, argA, argB⟩

/-- One bit in an operand word. -/
def bit32 (b : Bool) : BitVec 32 := (BitVec.ofBool b).setWidth 32

/-- The code of an identity; `identityOf` reads it back. -/
def identityCode : Identity → BitVec 32
  | .pit => 0
  | .keyboard => 1
  | .serial => 2
  | .floppy => 3
  | .rtc => 4
  | .mouse => 5
  | .ata0 => 6
  | .ata1 => 7
  | .ata2 => 8
  | .ata3 => 9
  | .other code => code

/-- The operand word of a handler: bit 0 set where `DevToMem` is absent, bit 1 where `MemToDev` is. -/
def handlerCode (h : Handler) : BitVec 32 :=
  (BitVec.ofBool (!h.memToDev) ++ BitVec.ofBool (!h.devToMem)).setWidth 32

/-- The code of a side; `keySideOf` reads it back. -/
def keySideCode : KeySide → BitVec 2
  | .standard => 0
  | .left => 1
  | .right => 2
  | .numpad => 3

/-- The operand word of a key event: bit 0 set for a release, bits 2:1 the side. -/
def keyEventCode (type : KeyType) (side : KeySide) : BitVec 32 :=
  (keySideCode side ++ BitVec.ofBool (type == .release)).setWidth 32

/-- The fields of an instruction's packet, row by row of spec/opcode_table.json. -/
def encodeFields (i : Instr) : Fields :=
  match i with
  | .pic0Icw1 data => outWord 0x20 data
  | .pic0Ocw3 data => outWord 0x20 data
  | .pic0Eoi => outWord 0x20 0x20
  | .pic0EoiRotate => outWord 0x20 0xA0
  | .pic0Seoi level => outWord 0x20 (0b01100#5 ++ level)
  | .pic0SeoiRotate level => outWord 0x20 (0b11100#5 ++ level)
  | .pic0SetPriority level => outWord 0x20 (0b11000#5 ++ level)
  | .pic0Ocw2Nop => outWord 0x20 0x40
  | .pic0RotAeoiSet => outWord 0x20 0x80
  | .pic0RotAeoiClr => outWord 0x20 0x00
  | .pic0Ocw2Reserved data => outWord 0x20 data
  | .pic0Icw2 data => outWord 0x21 data
  | .pic0Icw3 data => outWord 0x21 data
  | .pic0Icw4 data => outWord 0x21 data
  | .pic0Ocw1 data => outWord 0x21 data
  | .pic0ReadCmd => inWord 0x20
  | .pic0ReadMask => inWord 0x21
  | .pic0PollCmd => inWord 0x20
  | .pic0PollMask => inWord 0x21
  | .pic1Icw1 data => outWord 0xA0 data
  | .pic1Ocw3 data => outWord 0xA0 data
  | .pic1Eoi => outWord 0xA0 0x20
  | .pic1EoiRotate => outWord 0xA0 0xA0
  | .pic1Seoi level => outWord 0xA0 (0b01100#5 ++ level)
  | .pic1SeoiRotate level => outWord 0xA0 (0b11100#5 ++ level)
  | .pic1SetPriority level => outWord 0xA0 (0b11000#5 ++ level)
  | .pic1Ocw2Nop => outWord 0xA0 0x40
  | .pic1RotAeoiSet => outWord 0xA0 0x80
  | .pic1RotAeoiClr => outWord 0xA0 0x00
  | .pic1Ocw2Reserved data => outWord 0xA0 data
  | .pic1Icw2 data => outWord 0xA1 data
  | .pic1Icw3 data => outWord 0xA1 data
  | .pic1Icw4 data => outWord 0xA1 data
  | .pic1Ocw1 data => outWord 0xA1 data
  | .pic1ReadCmd => inWord 0xA0
  | .pic1ReadMask => inWord 0xA1
  | .pic1PollCmd => inWord 0xA0
  | .pic1PollMask => inWord 0xA1
  | .dma0Addr0W data => outWord 0x00 data
  | .dma0Addr0R => inWord 0x00
  | .dma0Count0W data => outWord 0x01 data
  | .dma0Count0R => inWord 0x01
  | .dma0Addr1W data => outWord 0x02 data
  | .dma0Addr1R => inWord 0x02
  | .dma0Count1W data => outWord 0x03 data
  | .dma0Count1R => inWord 0x03
  | .dma0Addr2W data => outWord 0x04 data
  | .dma0Addr2R => inWord 0x04
  | .dma0Count2W data => outWord 0x05 data
  | .dma0Count2R => inWord 0x05
  | .dma0Addr3W data => outWord 0x06 data
  | .dma0Addr3R => inWord 0x06
  | .dma0Count3W data => outWord 0x07 data
  | .dma0Count3R => inWord 0x07
  | .dma0CommandW data => outWord 0x08 data
  | .dma0StatusR => inWord 0x08
  | .dma0RequestW data => outWord 0x09 data
  | .dma0SingleMaskW data => outWord 0x0A data
  | .dma0ModeW data => outWord 0x0B data
  | .dma0ClearFlipflop data => outWord 0x0C data
  | .dma0MasterClear data => outWord 0x0D data
  | .dma0ClearMask data => outWord 0x0E data
  | .dma0FullMaskW data => outWord 0x0F data
  | .dma0WriteOnlyR9 => inWord 0x09
  | .dma0WriteOnlyRA => inWord 0x0A
  | .dma0WriteOnlyRB => inWord 0x0B
  | .dma0WriteOnlyRC => inWord 0x0C
  | .dma0WriteOnlyRD => inWord 0x0D
  | .dma0WriteOnlyRE => inWord 0x0E
  | .dma0WriteOnlyRF => inWord 0x0F
  | .dma1Addr0W data => outWord 0xC0 data
  | .dma1Addr0R => inWord 0xC0
  | .dma1Count0W data => outWord 0xC2 data
  | .dma1Count0R => inWord 0xC2
  | .dma1Addr1W data => outWord 0xC4 data
  | .dma1Addr1R => inWord 0xC4
  | .dma1Count1W data => outWord 0xC6 data
  | .dma1Count1R => inWord 0xC6
  | .dma1Addr2W data => outWord 0xC8 data
  | .dma1Addr2R => inWord 0xC8
  | .dma1Count2W data => outWord 0xCA data
  | .dma1Count2R => inWord 0xCA
  | .dma1Addr3W data => outWord 0xCC data
  | .dma1Addr3R => inWord 0xCC
  | .dma1Count3W data => outWord 0xCE data
  | .dma1Count3R => inWord 0xCE
  | .dma1CommandW data => outWord 0xD0 data
  | .dma1StatusR => inWord 0xD0
  | .dma1RequestW data => outWord 0xD2 data
  | .dma1SingleMaskW data => outWord 0xD4 data
  | .dma1ModeW data => outWord 0xD6 data
  | .dma1ClearFlipflop data => outWord 0xD8 data
  | .dma1MasterClear data => outWord 0xDA data
  | .dma1ClearMask data => outWord 0xDC data
  | .dma1FullMaskW data => outWord 0xDE data
  | .dma1WriteOnlyR9 => inWord 0xD2
  | .dma1WriteOnlyRA => inWord 0xD4
  | .dma1WriteOnlyRB => inWord 0xD6
  | .dma1WriteOnlyRC => inWord 0xD8
  | .dma1WriteOnlyRD => inWord 0xDA
  | .dma1WriteOnlyRE => inWord 0xDC
  | .dma1WriteOnlyRF => inWord 0xDE
  | .dmaPageG0W data => outWord 0x87 data
  | .dmaPageG0R => inWord 0x87
  | .dmaPageG1W data => outWord 0x83 data
  | .dmaPageG1R => inWord 0x83
  | .dmaPageG2W data => outWord 0x81 data
  | .dmaPageG2R => inWord 0x81
  | .dmaPageG3W data => outWord 0x82 data
  | .dmaPageG3R => inWord 0x82
  | .dmaPageG4W data => outWord 0x8F data
  | .dmaPageG4R => inWord 0x8F
  | .dmaPageG5W data => outWord 0x8B data
  | .dmaPageG5R => inWord 0x8B
  | .dmaPageG6W data => outWord 0x89 data
  | .dmaPageG6R => inWord 0x89
  | .dmaPageG7W data => outWord 0x8A data
  | .dmaPageG7R => inWord 0x8A
  | .dmaExtpage80W data => outWord 0x80 data
  | .dmaExtpage80R => inWord 0x80
  | .dmaExtpage84W data => outWord 0x84 data
  | .dmaExtpage84R => inWord 0x84
  | .dmaExtpage85W data => outWord 0x85 data
  | .dmaExtpage85R => inWord 0x85
  | .dmaExtpage86W data => outWord 0x86 data
  | .dmaExtpage86R => inWord 0x86
  | .dmaExtpage88W data => outWord 0x88 data
  | .dmaExtpage88R => inWord 0x88
  | .dmaExtpage8CW data => outWord 0x8C data
  | .dmaExtpage8CR => inWord 0x8C
  | .dmaExtpage8DW data => outWord 0x8D data
  | .dmaExtpage8DR => inWord 0x8D
  | .dmaExtpage8EW data => outWord 0x8E data
  | .dmaExtpage8ER => inWord 0x8E
  | .kbcCmdReadConfig => outWord 0x64 0x20
  | .kbcCmdWriteConfig => outWord 0x64 0x60
  | .kbcCmdAuxDisable => outWord 0x64 0xA7
  | .kbcCmdAuxEnable => outWord 0x64 0xA8
  | .kbcCmdAuxTest => outWord 0x64 0xA9
  | .kbcCmdSelfTest => outWord 0x64 0xAA
  | .kbcCmdKbdIfTest => outWord 0x64 0xAB
  | .kbcCmdKbdDisable => outWord 0x64 0xAD
  | .kbcCmdKbdEnable => outWord 0x64 0xAE
  | .kbcCmdReadOutport => outWord 0x64 0xD0
  | .kbcCmdWriteOutport => outWord 0x64 0xD1
  | .kbcCmdWriteKbdOutbuf => outWord 0x64 0xD2
  | .kbcCmdWriteAuxOutbuf => outWord 0x64 0xD3
  | .kbcCmdWriteToMouse => outWord 0x64 0xD4
  | .kbcCmdA20Disable => outWord 0x64 0xDD
  | .kbcCmdA20Enable => outWord 0x64 0xDF
  | .kbcCmdSystemResetUnimpl => outWord 0x64 0xFE
  | .kbcCmdPulseNop data => outWord 0x64 data
  | .kbcCmdUnsupported data => outWord 0x64 data
  | .kbcStatusR => inWord 0x64
  | .kbcDataRAux => inWord 0x60
  | .kbcDataRKbd => inWord 0x60
  | .kbcDataREmpty => inWord 0x60
  | .kbcArgConfig data => outWord 0x60 data
  | .kbcArgOutport data => outWord 0x60 data
  | .kbcArgKbdOutbuf data => outWord 0x60 data
  | .kbcArgAuxOutbuf data => outWord 0x60 data
  | .kbcArgToMouse data => outWord 0x60 data
  | .kbcArgUnexpected data => outWord 0x60 data
  | .kbdArgTypematic data => outWord 0x60 data
  | .kbdArgLed data => outWord 0x60 data
  | .kbdArgScancodeSet data => outWord 0x60 data
  | .kbdCmdSetLeds => outWord 0x60 0xED
  | .kbdCmdEcho => outWord 0x60 0xEE
  | .kbdCmdSelectScancodeSet => outWord 0x60 0xF0
  | .kbdCmdIdentify => outWord 0x60 0xF2
  | .kbdCmdSetTypematic => outWord 0x60 0xF3
  | .kbdCmdEnableScanning => outWord 0x60 0xF4
  | .kbdCmdResetDisable => outWord 0x60 0xF5
  | .kbdCmdResetEnable => outWord 0x60 0xF6
  | .kbdCmdResend => outWord 0x60 0xFE
  | .kbdCmdResetBat => outWord 0x60 0xFF
  | .kbdCmdUnrecognized data => outWord 0x60 data
  | .inw port => wideWord 1 false port 0
  | .outw port v => wideWord 1 true port (v.setWidth 32)
  | .ind port => wideWord 2 false port 0
  | .outd port v => wideWord 2 true port v
  | .setIrq n => sigWord 0 (n.setWidth 32) 0
  | .clearIrq n => sigWord 1 (n.setWidth 32) 0
  | .requestIrqNumber identity => sigWord 2 (identityCode identity) 0
  | .interruptAcknowledge => sigWord 3 0 0
  | .registerChannel g handler => sigWord 4 g (handlerCode handler)
  | .setDmaRequest g b => sigWord 5 (g.setWidth 32) (bit32 b)
  | .acknowledgeBusHold => sigWord 6 0 0
  | .update => sigWord 7 0 0
  | .keyEvent key type side => sigWord 8 key (keyEventCode type side)
  | .reset => sigWord 9 0 0

/-- The packet of an instruction. -/
def encode (i : Instr) : Packet := pack (encodeFields i)

/-- The `when` column of spec/opcode_table.json (R112): whether, in a context, the instruction's row is the one its word
selects. Where two rows' conditions overlap (a context no run reaches), the order of R112 and 43_kbd_device.md R332
decides. -/
def selectedIn (c : DecodeCtx) (i : Instr) : Bool :=
  match i with
  | .pic0Icw1 _ | .pic0Ocw3 _ | .pic0Eoi | .pic0EoiRotate | .pic0Seoi _ | .pic0SeoiRotate _
  | .pic0SetPriority _ | .pic0Ocw2Nop | .pic0RotAeoiSet | .pic0RotAeoiClr | .pic0Ocw2Reserved _ => true
  | .pic0Icw2 _ => c.icw .master == some .icw2
  | .pic0Icw3 _ => c.icw .master == some .icw3
  | .pic0Icw4 _ => c.icw .master == some .icw4
  | .pic0Ocw1 _ => c.icw .master == none
  | .pic0ReadCmd | .pic0ReadMask => !c.polled .master
  | .pic0PollCmd | .pic0PollMask => c.polled .master
  | .pic1Icw1 _ | .pic1Ocw3 _ | .pic1Eoi | .pic1EoiRotate | .pic1Seoi _ | .pic1SeoiRotate _
  | .pic1SetPriority _ | .pic1Ocw2Nop | .pic1RotAeoiSet | .pic1RotAeoiClr | .pic1Ocw2Reserved _ => true
  | .pic1Icw2 _ => c.icw .slave == some .icw2
  | .pic1Icw3 _ => c.icw .slave == some .icw3
  | .pic1Icw4 _ => c.icw .slave == some .icw4
  | .pic1Ocw1 _ => c.icw .slave == none
  | .pic1ReadCmd | .pic1ReadMask => !c.polled .slave
  | .pic1PollCmd | .pic1PollMask => c.polled .slave
  | .dma0Addr0W _ | .dma0Addr0R | .dma0Count0W _ | .dma0Count0R | .dma0Addr1W _ | .dma0Addr1R | .dma0Count1W _
  | .dma0Count1R | .dma0Addr2W _ | .dma0Addr2R | .dma0Count2W _ | .dma0Count2R | .dma0Addr3W _ | .dma0Addr3R
  | .dma0Count3W _ | .dma0Count3R | .dma0CommandW _ | .dma0StatusR | .dma0RequestW _ | .dma0SingleMaskW _
  | .dma0ModeW _ | .dma0ClearFlipflop _ | .dma0MasterClear _ | .dma0ClearMask _ | .dma0FullMaskW _
  | .dma0WriteOnlyR9 | .dma0WriteOnlyRA | .dma0WriteOnlyRB | .dma0WriteOnlyRC | .dma0WriteOnlyRD
  | .dma0WriteOnlyRE | .dma0WriteOnlyRF | .dma1Addr0W _ | .dma1Addr0R | .dma1Count0W _ | .dma1Count0R
  | .dma1Addr1W _ | .dma1Addr1R | .dma1Count1W _ | .dma1Count1R | .dma1Addr2W _ | .dma1Addr2R | .dma1Count2W _
  | .dma1Count2R | .dma1Addr3W _ | .dma1Addr3R | .dma1Count3W _ | .dma1Count3R | .dma1CommandW _ | .dma1StatusR
  | .dma1RequestW _ | .dma1SingleMaskW _ | .dma1ModeW _ | .dma1ClearFlipflop _ | .dma1MasterClear _
  | .dma1ClearMask _ | .dma1FullMaskW _ | .dma1WriteOnlyR9 | .dma1WriteOnlyRA | .dma1WriteOnlyRB
  | .dma1WriteOnlyRC | .dma1WriteOnlyRD | .dma1WriteOnlyRE | .dma1WriteOnlyRF | .dmaPageG0W _ | .dmaPageG0R
  | .dmaPageG1W _ | .dmaPageG1R | .dmaPageG2W _ | .dmaPageG2R | .dmaPageG3W _ | .dmaPageG3R | .dmaPageG4W _
  | .dmaPageG4R | .dmaPageG5W _ | .dmaPageG5R | .dmaPageG6W _ | .dmaPageG6R | .dmaPageG7W _ | .dmaPageG7R
  | .dmaExtpage80W _ | .dmaExtpage80R | .dmaExtpage84W _ | .dmaExtpage84R | .dmaExtpage85W _ | .dmaExtpage85R
  | .dmaExtpage86W _ | .dmaExtpage86R | .dmaExtpage88W _ | .dmaExtpage88R | .dmaExtpage8CW _ | .dmaExtpage8CR
  | .dmaExtpage8DW _ | .dmaExtpage8DR | .dmaExtpage8EW _ | .dmaExtpage8ER | .kbcCmdReadConfig
  | .kbcCmdWriteConfig | .kbcCmdAuxDisable | .kbcCmdAuxEnable | .kbcCmdAuxTest | .kbcCmdSelfTest
  | .kbcCmdKbdIfTest | .kbcCmdKbdDisable | .kbcCmdKbdEnable | .kbcCmdReadOutport | .kbcCmdWriteOutport
  | .kbcCmdWriteKbdOutbuf | .kbcCmdWriteAuxOutbuf | .kbcCmdWriteToMouse | .kbcCmdA20Disable | .kbcCmdA20Enable
  | .kbcCmdSystemResetUnimpl | .kbcCmdPulseNop _ | .kbcCmdUnsupported _ | .kbcStatusR => true
  | .kbcDataRAux => c.auxb
  | .kbcDataRKbd => !c.auxb && c.outb
  | .kbcDataREmpty => !c.auxb && !c.outb
  | .kbcArgConfig _ => c.expecting && c.lastComm == 0x60
  | .kbcArgOutport _ => c.expecting && c.lastComm == 0xD1
  | .kbcArgKbdOutbuf _ => c.expecting && c.lastComm == 0xD2
  | .kbcArgAuxOutbuf _ => c.expecting && c.lastComm == 0xD3
  | .kbcArgToMouse _ => c.expecting && c.lastComm == 0xD4
  | .kbcArgUnexpected _ => c.expecting && !argumentCommands.contains c.lastComm
  | .kbdArgTypematic _ => !c.expecting && c.typematic
  | .kbdArgLed _ => !c.expecting && !c.typematic && c.led
  | .kbdArgScancodeSet _ => !c.expecting && !c.typematic && !c.led && c.scancodeSet
  | .kbdCmdSetLeds | .kbdCmdEcho | .kbdCmdSelectScancodeSet | .kbdCmdIdentify | .kbdCmdSetTypematic
  | .kbdCmdEnableScanning | .kbdCmdResetDisable | .kbdCmdResetEnable | .kbdCmdResend | .kbdCmdResetBat
  | .kbdCmdUnrecognized _ => c.deviceCommand
  | .inw _ | .outw _ _ | .ind _ | .outd _ _ | .setIrq _ | .clearIrq _ | .requestIrqNumber _
  | .interruptAcknowledge | .registerChannel _ _ | .setDmaRequest _ _ | .acknowledgeBusHold | .update
  | .keyEvent _ _ _ | .reset => true

end Sys2Proof
end

