-- ==== Sys2Proof/Machine/State.lean ====
section
/-! DEFINITION. The state of the block (spec/10_state.md), of the collaborators it reads and writes (spec/00_scope.md
R10), the record of its outputs, the events still to come, and the state right after reset. All of it is plain data. -/

namespace Sys2Proof.Machine

/-- Four like things, one for each local channel of a DMA controller. -/
structure Quad (α : Type) where
  q0 : α
  q1 : α
  q2 : α
  q3 : α
  deriving DecidableEq, Repr

/-- One PIC controller (10_state.md R22, R23, R24, R26). -/
structure Pic where
  /-- Interrupt-request register (R22). -/
  irr : Byte
  /-- In-service register (R22). -/
  isr : Byte
  /-- Interrupt-mask register, 1 = masked (R22). -/
  imr : Byte
  /-- Vector base, bits 2:0 always 0 (R23). -/
  offset : Byte
  /-- The input of lowest priority (R23, R25). -/
  lowestPriority : Input
  /-- The input latched by the last successful service (R23). -/
  currentIrq : Input
  /-- A latched request awaits its acknowledge (R23). -/
  intRequestPin : Bool
  autoEoi : Bool
  rotateOnAutoEoi : Bool
  specialMask : Bool
  /-- The next read of either port is a poll (R23). -/
  polled : Bool
  /-- 0 edge, 1 level (R23). -/
  levelMode : Bool
  /-- 0 the command port reads IRR, 1 it reads ISR (R23). -/
  readIsrSelect : Bool
  /-- An ICW sequence is open (R24). -/
  inInit : Bool
  /-- The ICW that the next mask-port write supplies; meaningful only while `inInit` (R24, notes/assumptions/18.md). -/
  byteExpected : IcwWord
  /-- The single-controller bit of ICW1 (R24). -/
  icw1Single : Bool
  /-- The last level a device drove on each input (R26). -/
  irqPin : Byte
  deriving DecidableEq, Repr

/-- `transfer_type` (R29): 0 verify, 1 write-to-memory, 2 read-from-memory, 3 undefined. -/
inductive TransferType where
  | verify
  | writeToMemory
  | readFromMemory
  | undefinedType
  deriving DecidableEq, Repr

/-- `mode_type` (R29): 0 demand, 1 single, 2 block, 3 cascade. -/
inductive ModeType where
  | demand
  | single
  | block
  | cascade
  deriving DecidableEq, Repr

/-- A DMA channel's mode (10_state.md R29). -/
structure DmaMode where
  transferType : TransferType
  addrDecrement : Bool
  autoinit : Bool
  modeType : ModeType
  deriving DecidableEq, Repr

/-- A DMA channel's registers (10_state.md R28). -/
structure Channel where
  mode : DmaMode
  baseAddr : Word
  curAddr : Word
  baseCount : Word
  curCount : Word
  page : Byte
  inUse : Bool
  deriving DecidableEq, Repr

/-- One DMA controller (10_state.md R30 to R33) with the handlers bound to its channels (41_dma.md R200). -/
structure Dma where
  chan : Quad Channel
  handler : Quad (Option Handler)
  drq : Quad Bool
  dack : Quad Bool
  /-- 1 = disabled (R33). -/
  mask : Quad Bool
  /-- 0 the next address or count access moves the low byte, 1 the high byte (R30). -/
  flipflop : Bool
  /-- Request bits 7:4, terminal-count bits 3:0 (R31). -/
  status : Byte
  command : Byte
  disabled : Bool
  deriving DecidableEq, Repr

/-- The eight extra page registers (10_state.md R35). -/
structure ExtPages where
  p80 : Byte
  p84 : Byte
  p85 : Byte
  p86 : Byte
  p88 : Byte
  p8C : Byte
  p8D : Byte
  p8E : Byte
  deriving DecidableEq, Repr

/-- The keyboard/mouse controller (10_state.md R36 to R39). -/
structure Kbc where
  pare : Bool
  tim : Bool
  auxb : Bool
  keyl : Bool
  cD : Bool
  sysf : Bool
  inpb : Bool
  outb : Bool
  kbdOutputBuffer : Byte
  auxOutputBuffer : Byte
  /-- Controller-generated bytes, oldest first; no bound (R38, 90_conflicts.md C13). -/
  q : List Byte
  kbdClockEnabled : Bool
  auxClockEnabled : Bool
  allowIrq1 : Bool
  allowIrq12 : Bool
  lastComm : Byte
  expectingPort60h : Bool
  scancodesTranslate : Bool
  /-- 1, 2 or 3 (R39). -/
  currentScancodeSet : BitVec 2
  timerPending : Bool
  irq1Requested : Bool
  irq12Requested : Bool
  batInProgress : Bool
  selftestDone : Bool
  deriving DecidableEq, Repr

/-- The keyboard device side (10_state.md R41 to R43). -/
structure Kbd where
  /-- At most 16 bytes, oldest first (R41). -/
  buf : List Byte
  expectingTypematic : Bool
  expectingLedWrite : Bool
  expectingScancodeSet : Bool
  delay : BitVec 2
  repeatRate : BitVec 5
  ledStatus : Byte
  scanningEnabled : Bool
  deriving DecidableEq, Repr

/-- Physical memory as the pairs (address, byte) that differ from `Config.memoryFill`, addresses strictly rising
(`Memory.wf` in Machine/Memory.lean). -/
abbrev Memory := List Host.Cell

/-- The collaborators' state that an operation of the block reads or writes (00_scope.md R9, R10). None of it is reset by
the block (10_state.md R54). -/
structure Env where
  /-- The A20 gate, owned by the motherboard (R10). -/
  a20 : Bool
  /-- Physical memory (R9). -/
  mem : Memory
  /-- The mouse's own byte buffer, oldest first (43_kbd_device.md R349). -/
  mouse : List Byte
  /-- The units each device of global channels 0 to 3 will hand over, in order (notes/assumptions/11.md). -/
  supply0 : Quad (List Word)
  /-- The same for global channels 4 to 7. -/
  supply1 : Quad (List Word)
  /-- How many free device units have been drawn (the model's own counter, notes/assumptions/11.md). -/
  freeUnits : Nat
  /-- The ports the bus routes to the block (20_memory.md R70). -/
  granted : List PortNo
  /-- The ports another component owns (20_memory.md R70). -/
  foreign : List PortNo
  deriving DecidableEq, Repr

/-- The two failures an access can report to the bus (00_scope.md R11, 60_exceptions.md R380). -/
inductive Failure where
  | unknownPort (port : PortNo)
  | writeOnlyPortRead (port : PortNo)
  deriving DecidableEq, Repr

/-- What an operation answers the agent that performed it. -/
inductive Reply where
  /-- Nothing: a write, or a call without a result. -/
  | done
  /-- The byte of a port read. -/
  | byte (b : Byte)
  /-- The pattern of a word read (20_memory.md R73). -/
  | word (w : BitVec 16)
  /-- The pattern of a doubleword read (20_memory.md R73). -/
  | dword (w : BitVec 32)
  /-- A failure reported to the bus (60_exceptions.md R380). -/
  | raised (f : Failure)
  /-- The vector of an acknowledge (40_pic.md R163). -/
  | vector (v : Byte)
  /-- A registered IRQ number (40_pic.md R145). -/
  | irqNumber (n : BitVec 4)
  /-- `IRQ_UNSUPPORTED`, a value outside 0..15 (00_scope.md R5). -/
  | irqUnsupported
  /-- Success or failure of a channel registration (41_dma.md R200). -/
  | registered (ok : Bool)
  /-- The poll code of an update (42_kbc.md R297). -/
  | pollCode (code : BitVec 2)
  deriving DecidableEq, Repr

/-- The keyboard's LEDs (00_scope.md R10). -/
inductive Led where
  | num
  | caps
  | scroll
  deriving DecidableEq, Repr

/-- The calls the block makes on collaborators that leave no other trace in State (00_scope.md R10). -/
inductive Output where
  /-- `Notify(led, on)` (43_kbd_device.md R334, R350). -/
  | notify (led : Led) (on : Bool)
  /-- `Mouse.control(b)` (42_kbc.md R293). -/
  | mouseControl (b : Byte)
  /-- `CpuResetRequest()` (42_kbc.md R290). -/
  | cpuResetRequest
  /-- `Handler[g].DevToMem(n)`, with the `dma.tc` the handler sees (41_dma.md R224). -/
  | devToMem (d : DmaId) (j : Chan) (tc : Bool)
  /-- `Handler[g].MemToDev(n, v)`, with the `dma.tc` the handler sees (41_dma.md R224). -/
  | memToDev (d : DmaId) (j : Chan) (v : Word) (tc : Bool)
  deriving DecidableEq, Repr

/-- The kinds of `Log` (60_exceptions.md R381, 00_scope.md R10). -/
inductive LogKind where
  | dmaBlockMode (d : DmaId) (j : Chan)
  | dmaBoundary (d : DmaId) (j : Chan)
  | dmaCommandBits (d : DmaId) (data : Byte)
  | dmaRequestWrite (d : DmaId)
  | dmaUndefinedTransferType (d : DmaId) (j : Chan)
  | dmaMissingHandler (d : DmaId) (j : Chan)
  | picNot8086 (c : PicId)
  | picNopCommand (c : PicId)
  | picReservedOcw2 (c : PicId) (data : Byte)
  | irqAllocation
  | kbcQueueOverrun
  | kbcOutputBufferFull
  | kbcReadOfEmptyBuffer
  | kbcSystemResetNotImplemented
  | kbcUnsupportedCommand (data : Byte)
  | kbdBufferFull
  | kbdBadScancodeSet (data : Byte)
  | kbdResendRequested
  | kbdUnrecognizedCommand (data : Byte)
  | wideAccess (port : PortNo)
  deriving DecidableEq, Repr

/-- What happens next outside the block (notes/assumptions/1.md): an operation on it, or a collaborator's own move. -/
inductive Event where
  /-- An agent performs the operation of this packet. -/
  | op (p : Packet)
  /-- The mouse puts a byte into its own buffer (43_kbd_device.md R349). -/
  | mouseByte (b : Byte)
  /-- The device of a channel gets a unit to hand over. -/
  | deviceUnit (d : DmaId) (j : Chan) (v : Word)
  /-- Another agent stores a byte to memory. -/
  | memoryByte (a : PhysAddr) (b : Byte)
  /-- Another component sets the A20 gate. -/
  | a20Gate (on : Bool)
  /-- Another component registers a port (20_memory.md R70). -/
  | portClaim (port : PortNo)
  deriving DecidableEq, Repr

/-- The whole machine. -/
structure State where
  /-- `pic[0]`. -/
  master : Pic
  /-- `pic[1]`. -/
  slave : Pic
  /-- `dma[0]`, 8-bit. -/
  dma0 : Dma
  /-- `dma[1]`, 16-bit, wired to the CPU. -/
  dma1 : Dma
  /-- The CPU has granted the bus and a transfer is in progress (10_state.md R35). -/
  hlda : Bool
  /-- The terminal-count output (10_state.md R35). -/
  tc : Bool
  ext : ExtPages
  kbc : Kbc
  kbd : Kbd
  /-- The interrupt-request line to the CPU (10_state.md R44). -/
  intr : Bool
  /-- The hold-request line to the CPU (10_state.md R44). -/
  hrq : Bool
  env : Env
  /-- What the last operation answered (the model's own field, notes/assumptions/7.md). -/
  reply : Reply
  /-- The calls made on collaborators, oldest first (43_kbd_device.md R350; notes/assumptions/7.md). -/
  outputs : List Output
  /-- The diagnostics, oldest first (00_scope.md R10; notes/assumptions/7.md). -/
  log : List LogKind
  /-- The events still to come, oldest first (the model's own field, notes/assumptions/1.md). -/
  inbox : List Event
  deriving DecidableEq, Repr

/-- A fault would stop the machine. There is none: the two failures of 00_scope.md R11 are "fatal to that access but not to
the session" (60_exceptions.md R380) and are replies (`Reply.raised`) of a machine that goes on. -/
inductive Fault where
  deriving DecidableEq, Repr

/-- Why a step has no meaning: what stands in the inbox is no operation of the block. Each is raised by the step alone, and
is safe: the model stops where the spec says the access does not reach the block or is outside its domain (U12, U28). -/
inductive Refusal where
  /-- An instruction whose meaning is not written; raised by no arm of `exec` (safe). -/
  | notModelled (mnemonic : String)
  /-- The packet encodes no operation of the block; raised by the fetch (safe). -/
  | undecodable (e : DecodeError)
  /-- The bus does not route the port to the block, because another component owns it (20_memory.md R70); raised by the
  fetch (safe). -/
  | notRouted (port : PortNo)
  deriving DecidableEq, Repr

/-- A meaning's outcome. -/
abbrev Result := Host.Outcome State Fault Refusal

/-! ## Reset (spec/10_state.md R50 to R54) -/

/-- R50, without the vector base. -/
def Pic.atReset (offset : Byte) : Pic where
  irr := 0x00
  isr := 0x00
  imr := 0xFF
  offset := offset
  lowestPriority := 7
  currentIrq := 0
  intRequestPin := false
  autoEoi := false
  rotateOnAutoEoi := false
  specialMask := false
  polled := false
  levelMode := false
  readIsrSelect := false
  inInit := false
  byteExpected := .icw2
  icw1Single := false
  irqPin := 0x00

/-- R51: a channel, `inUse` being 1 for the cascade channel only. -/
def Channel.atReset (inUse : Bool) : Channel where
  mode := ⟨.verify, false, false, .demand⟩
  baseAddr := 0x0000
  curAddr := 0x0000
  baseCount := 0x0000
  curCount := 0x0000
  page := 0x00
  inUse := inUse

/-- The same thing for all four channels. -/
def Quad.all {α : Type} (a : α) : Quad α := ⟨a, a, a, a⟩

/-- R51. `inUse` and `handler` are those of local channel 0. -/
def Dma.atReset (inUse : Bool) (handler : Option Handler) : Dma where
  chan := ⟨Channel.atReset inUse, Channel.atReset false, Channel.atReset false, Channel.atReset false⟩
  handler := ⟨handler, none, none, none⟩
  drq := Quad.all false
  dack := Quad.all false
  mask := Quad.all true
  flipflop := false
  status := 0x00
  command := 0x00
  disabled := false

/-- 41_dma.md R201: the handler bound to global channel 4, "whose callbacks do nothing" (notes/assumptions/13.md). -/
def noopHandler : Handler := ⟨false, false⟩

/-- R51. -/
def ExtPages.atReset : ExtPages := ⟨0x00, 0x00, 0x00, 0x00, 0x00, 0x00, 0x00, 0x00⟩

/-- R52. -/
def Kbc.atReset : Kbc where
  pare := false
  tim := false
  auxb := false
  keyl := true
  cD := true
  sysf := false
  inpb := false
  outb := false
  kbdOutputBuffer := 0x00
  auxOutputBuffer := 0x00
  q := []
  kbdClockEnabled := true
  auxClockEnabled := false
  allowIrq1 := true
  allowIrq12 := true
  lastComm := 0x00
  expectingPort60h := false
  scancodesTranslate := true
  currentScancodeSet := 2
  timerPending := false
  irq1Requested := false
  irq12Requested := false
  batInProgress := false
  selftestDone := false

/-- R53. -/
def Kbd.atReset : Kbd where
  buf := []
  expectingTypematic := false
  expectingLedWrite := false
  expectingScancodeSet := false
  delay := 1
  repeatRate := 0x0B
  ledStatus := 0x00
  scanningEnabled := true

/-- The 54 ports of 20_memory.md R71. -/
def ownedPorts : List PortNo :=
  [0x00, 0x01, 0x02, 0x03, 0x04, 0x05, 0x06, 0x07, 0x08, 0x09, 0x0A, 0x0B, 0x0C, 0x0D, 0x0E, 0x0F,
   0x20, 0x21, 0x60, 0x64,
   0x80, 0x81, 0x82, 0x83, 0x84, 0x85, 0x86, 0x87, 0x88, 0x89, 0x8A, 0x8B, 0x8C, 0x8D, 0x8E, 0x8F,
   0xA0, 0xA1,
   0xC0, 0xC2, 0xC4, 0xC6, 0xC8, 0xCA, 0xCC, 0xCE, 0xD0, 0xD2, 0xD4, 0xD6, 0xD8, 0xDA, 0xDC, 0xDE]

/-- The collaborators at power-on: DESIGN CHOICE throughout (notes/assumptions/8.md to 11.md and 15.md), but for the ports,
which the bus grants because no other component owns them. -/
def Env.atPowerOn : Env where
  a20 := true
  mem := []
  mouse := []
  supply0 := Quad.all []
  supply1 := Quad.all []
  freeUnits := 0
  granted := ownedPorts
  foreign := []

/-- The machine right after power-on and reset (70_reset_and_hazards.md R420 to R422): the block at its reset values, no
event to come (notes/assumptions/2.md). -/
def State.reset : State where
  master := Pic.atReset 0x08
  slave := Pic.atReset 0x70
  dma0 := Dma.atReset false none
  dma1 := Dma.atReset true (some noopHandler)
  hlda := false
  tc := false
  ext := ExtPages.atReset
  kbc := Kbc.atReset
  kbd := Kbd.atReset
  intr := false
  hrq := false
  env := Env.atPowerOn
  reply := .done
  outputs := []
  log := []
  inbox := []

end Sys2Proof.Machine
end

