-- ==== Sys2Proof/Machine/Operands.lean ====
section
/-! DEFINITION. Operand forms: the bit fields of every data byte (spec/30_encoding.md R104 to R108, R113), halves of a
16-bit register, channels and inputs as the rules name them. -/

namespace Sys2Proof.Machine

/-! ## Bits -/

/-- `v[i]` for a PIC input (00_scope.md R6). -/
def bitAt (v : Byte) (i : Input) : Bool := v.getLsbD i.toNat

/-- `v[i] <- b` (00_scope.md R7) at any width. -/
def setBit {n : Nat} (v : BitVec n) (i : Nat) (b : Bool) : BitVec n :=
  if b then v ||| BitVec.twoPow n i else v &&& ~~~(BitVec.twoPow n i)

/-- `v[i] <- b` for a PIC input. -/
def setBitAt (v : Byte) (i : Input) (b : Bool) : Byte := setBit v i.toNat b

/-- `v` with bits 7:0 replaced. -/
def setLow (v : Word) (b : Byte) : Word := v.extractLsb' 8 8 ++ b

/-- `v` with bits 15:8 replaced. -/
def setHigh (v : Word) (b : Byte) : Word := b ++ v.extractLsb' 0 8

/-- The half of a 16-bit register that an access moves: low while the flip-flop is 0 (20_memory.md R76). -/
def halfOf (flipflop : Bool) (v : Word) : Byte :=
  if flipflop then v.extractLsb' 8 8 else v.extractLsb' 0 8

/-- A 16-bit register with the selected half replaced (20_memory.md R76, D7). -/
def setHalf (flipflop : Bool) (v : Word) (b : Byte) : Word :=
  if flipflop then setHigh v b else setLow v b

/-! ## PIC bytes (R105, R106) -/

/-- ICW1 bit 3, level mode. -/
def icw1Ltim (data : Byte) : Bool := data.getLsbD 3

/-- ICW1 bit 1, the single-controller bit. -/
def icw1Sngl (data : Byte) : Bool := data.getLsbD 1

/-- ICW2 bits 7:3 as the vector base. -/
def icw2Offset (data : Byte) : Byte := data &&& 0xF8

/-- ICW4 bit 1, auto-EOI. -/
def icw4Aeoi (data : Byte) : Bool := data.getLsbD 1

/-- ICW4 bit 0, 8086 mode. -/
def icw4Upm (data : Byte) : Bool := data.getLsbD 0

/-- OCW3 bit 2, poll. -/
def ocw3Poll (data : Byte) : Bool := data.getLsbD 2

/-- OCW3 bits 1:0. -/
def ocw3RrRis (data : Byte) : BitVec 2 := data.extractLsb' 0 2

/-- OCW3 bits 6:5. -/
def ocw3EsmmSmm (data : Byte) : BitVec 2 := data.extractLsb' 5 2

/-- The controller and the input of an IRQ number (40_pic.md R143): `c = n >> 3`, `i = n & 7`. -/
def irqController (n : BitVec 4) : PicId := if n.getLsbD 3 then .slave else .master

/-- The input of an IRQ number on its controller. -/
def irqInput (n : BitVec 4) : Input := n.extractLsb' 0 3

/-- The IRQ registry (40_pic.md R145); `none` is `IRQ_UNSUPPORTED`. -/
def registeredIrq : Identity → Option (BitVec 4)
  | .pit => some 0
  | .keyboard => some 1
  | .serial => some 4
  | .floppy => some 6
  | .rtc => some 8
  | .mouse => some 12
  | .ata0 => some 14
  | .ata1 => some 15
  | .ata2 => some 11
  | .ata3 => some 9
  | .other _ => none

/-! ## DMA bytes (R108) -/

/-- The local channel a two-bit field names. -/
def chanOf (v : BitVec 2) : Chan :=
  match v.toNat with
  | 0 => .c0
  | 1 => .c1
  | 2 => .c2
  | _ => .c3

/-- The number of a local channel. -/
def chanIndex : Chan → Nat
  | .c0 => 0
  | .c1 => 1
  | .c2 => 2
  | .c3 => 3

/-- The controller of a global channel, `g >> 2` (00_scope.md R4). -/
def globalController (g : BitVec 3) : DmaId := if g.getLsbD 2 then .dma1 else .dma0

/-- The local channel of a global channel, `g & 3` (00_scope.md R4). -/
def globalChan (g : BitVec 3) : Chan := chanOf (g.extractLsb' 0 2)

/-- `transfer_type` by its code (R29, R108). -/
def transferTypeOf (v : BitVec 2) : TransferType :=
  match v.toNat with
  | 0 => .verify
  | 1 => .writeToMemory
  | 2 => .readFromMemory
  | _ => .undefinedType

/-- `mode_type` by its code (R29, R108). -/
def modeTypeOf (v : BitVec 2) : ModeType :=
  match v.toNat with
  | 0 => .demand
  | 1 => .single
  | 2 => .block
  | _ => .cascade

/-- The mode byte's four fields (R108). -/
def modeOf (data : Byte) : DmaMode where
  transferType := transferTypeOf (data.extractLsb' 2 2)
  addrDecrement := data.getLsbD 5
  autoinit := data.getLsbD 4
  modeType := modeTypeOf (data.extractLsb' 6 2)

/-- The channel of a mode or single-mask byte, bits 1:0. -/
def byteChan (data : Byte) : Chan := chanOf (data.extractLsb' 0 2)

/-- The new mask bit of a single-mask byte, bit 2. -/
def singleMaskBit (data : Byte) : Bool := data.getLsbD 2

/-- The four new mask bits of a full-mask byte, bits 3:0. -/
def fullMask (data : Byte) : Quad Bool :=
  ⟨data.getLsbD 0, data.getLsbD 1, data.getLsbD 2, data.getLsbD 3⟩

/-- The command byte's controller-disable bit, bit 2. -/
def commandDisable (data : Byte) : Bool := data.getLsbD 2

/-- Whether a command byte has one of the unsupported bits 7:3, 1:0 (41_dma.md R209). -/
def commandUnsupported (data : Byte) : Bool := (data &&& 0xFB) != 0

/-! ## Keyboard bytes (R113) -/

/-- Config byte bit 6. -/
def configTranslate (data : Byte) : Bool := data.getLsbD 6

/-- Config byte bit 5, 1 = mouse clock off. -/
def configAuxClockOff (data : Byte) : Bool := data.getLsbD 5

/-- Config byte bit 4, 1 = keyboard clock off. -/
def configKbdClockOff (data : Byte) : Bool := data.getLsbD 4

/-- Config byte bit 2. -/
def configSysf (data : Byte) : Bool := data.getLsbD 2

/-- Config byte bit 1. -/
def configAllowIrq12 (data : Byte) : Bool := data.getLsbD 1

/-- Config byte bit 0. -/
def configAllowIrq1 (data : Byte) : Bool := data.getLsbD 0

/-- Output-port byte bit 1. -/
def outportA20 (data : Byte) : Bool := data.getLsbD 1

/-- Output-port byte bit 0, 0 = request a CPU reset. -/
def outportNoReset (data : Byte) : Bool := data.getLsbD 0

/-- Typematic byte bits 6:5. -/
def typematicDelay (data : Byte) : BitVec 2 := data.extractLsb' 5 2

/-- Typematic byte bits 4:0. -/
def typematicRate (data : Byte) : BitVec 5 := data.extractLsb' 0 5

/-- LED byte: the bit of each LED. -/
def ledBit (data : Byte) : Led → Bool
  | .scroll => data.getLsbD 0
  | .num => data.getLsbD 1
  | .caps => data.getLsbD 2

/-! ## Access to parts of the state by index -/

/-- One of four. -/
def Quad.get {α : Type} (q : Quad α) : Chan → α
  | .c0 => q.q0
  | .c1 => q.q1
  | .c2 => q.q2
  | .c3 => q.q3

/-- One of four replaced. -/
def Quad.set {α : Type} (q : Quad α) (j : Chan) (a : α) : Quad α :=
  match j with
  | .c0 => { q with q0 := a }
  | .c1 => { q with q1 := a }
  | .c2 => { q with q2 := a }
  | .c3 => { q with q3 := a }

/-- An extra page register (10_state.md R35). -/
def ExtPages.get (x : ExtPages) : ExtSlot → Byte
  | .x80 => x.p80
  | .x84 => x.p84
  | .x85 => x.p85
  | .x86 => x.p86
  | .x88 => x.p88
  | .x8C => x.p8C
  | .x8D => x.p8D
  | .x8E => x.p8E

/-- An extra page register replaced. -/
def ExtPages.set (x : ExtPages) (slot : ExtSlot) (b : Byte) : ExtPages :=
  match slot with
  | .x80 => { x with p80 := b }
  | .x84 => { x with p84 := b }
  | .x85 => { x with p85 := b }
  | .x86 => { x with p86 := b }
  | .x88 => { x with p88 := b }
  | .x8C => { x with p8C := b }
  | .x8D => { x with p8D := b }
  | .x8E => { x with p8E := b }

/-- `pic[c]` (00_scope.md R7). -/
def State.pic (s : State) : PicId → Pic
  | .master => s.master
  | .slave => s.slave

/-- `pic[c] <- p`. -/
def State.setPic (s : State) (c : PicId) (p : Pic) : State :=
  match c with
  | .master => { s with master := p }
  | .slave => { s with slave := p }

/-- `dma[d]` (00_scope.md R7). -/
def State.dma (s : State) : DmaId → Dma
  | .dma0 => s.dma0
  | .dma1 => s.dma1

/-- `dma[d] <- x`. -/
def State.setDma (s : State) (d : DmaId) (x : Dma) : State :=
  match d with
  | .dma0 => { s with dma0 := x }
  | .dma1 => { s with dma1 := x }

/-- `dma[d].chan[j]`. -/
def State.chan (s : State) (d : DmaId) (j : Chan) : Channel := (s.dma d).chan.get j

/-- `dma[d].chan[j] <- ch`. -/
def State.setChan (s : State) (d : DmaId) (j : Chan) (ch : Channel) : State :=
  s.setDma d { s.dma d with chan := (s.dma d).chan.set j ch }

/-- The units the device of a channel will hand over. -/
def Env.supply (e : Env) (d : DmaId) (j : Chan) : List Word :=
  match d with
  | .dma0 => e.supply0.get j
  | .dma1 => e.supply1.get j

/-- Those units replaced. -/
def Env.setSupply (e : Env) (d : DmaId) (j : Chan) (l : List Word) : Env :=
  match d with
  | .dma0 => { e with supply0 := e.supply0.set j l }
  | .dma1 => { e with supply1 := e.supply1.set j l }

end Sys2Proof.Machine
end

