-- ==== Sys2Proof/Machine/Flags.lean ====
section
/-! DEFINITION. The status bytes and conditions that the block computes from its flags: the KBC status, config and output
port bytes, the DMA status bits and arbitration condition, the DMA address and its boundary check, the poll code. -/

namespace Sys2Proof.Machine

/-- The KBC status byte (10_state.md R36, 42_kbc.md R267): `{pare, tim, auxb, keyl, c_d, sysf, inpb, outb}`. -/
def kbcStatus (k : Kbc) : Byte :=
  BitVec.ofBool k.pare ++ BitVec.ofBool k.tim ++ BitVec.ofBool k.auxb ++ BitVec.ofBool k.keyl ++
    BitVec.ofBool k.cD ++ BitVec.ofBool k.sysf ++ BitVec.ofBool k.inpb ++ BitVec.ofBool k.outb

/-- The config byte that command 0x20 reads (30_encoding.md R113, 42_kbc.md R269). -/
def configByte (k : Kbc) : Byte :=
  0#1 ++ BitVec.ofBool k.scancodesTranslate ++ BitVec.ofBool (!k.auxClockEnabled) ++
    BitVec.ofBool (!k.kbdClockEnabled) ++ 0#1 ++ BitVec.ofBool k.sysf ++ BitVec.ofBool k.allowIrq12 ++
    BitVec.ofBool k.allowIrq1

/-- The output-port byte that command 0xD0 reads (30_encoding.md R113, 42_kbc.md R278). -/
def outportByte (k : Kbc) (a20 : Bool) : Byte :=
  0#2 ++ BitVec.ofBool k.irq12Requested ++ BitVec.ofBool k.irq1Requested ++ 0#2 ++ BitVec.ofBool a20 ++ 1#1

/-- The poll's return code (30_encoding.md R115): bit 0 IRQ 1, bit 1 IRQ 12. -/
def pollCodeOf (k : Kbc) : BitVec 2 := BitVec.ofBool k.irq12Requested ++ BitVec.ofBool k.irq1Requested

/-- `dma[d].status[4 + j]`: a request is pending on local channel `j` (10_state.md R31). -/
def Dma.requested (x : Dma) (j : Chan) : Bool := x.status.getLsbD (4 + chanIndex j)

/-- A pending request on an unmasked channel (10_state.md R33, 41_dma.md R202). -/
def Dma.qualifies (x : Dma) (j : Chan) : Bool := x.requested j && !x.mask.get j

/-- 41_dma.md R202: the controller is enabled and has an unmasked pending request. -/
def Dma.wantsHold (x : Dma) : Bool :=
  !x.disabled && (x.qualifies .c0 || x.qualifies .c1 || x.qualifies .c2 || x.qualifies .c3)

/-- 41_dma.md R203: the lowest qualifying channel; `disabled` is not consulted. -/
def Dma.select (x : Dma) : Option Chan := [Chan.c0, .c1, .c2, .c3].find? x.qualifies

/-- The shift of a controller's addresses: 0 for 8-bit, 1 for 16-bit (20_memory.md R77). -/
def unitShift : DmaId → Nat
  | .dma0 => 0
  | .dma1 => 1

/-- The physical address of a channel's next transfer (20_memory.md R77): page in bits 23:16, OR-ed with the shifted current
address. -/
def physAddr (d : DmaId) (ch : Channel) : PhysAddr :=
  (ch.page ++ 0#16) ||| (ch.curAddr.setWidth 24 <<< unitShift d)

/-- The boundary check of 20_memory.md R81, in 32 bits: no floor or ceiling needs more (notes/assumptions/19.md). -/
def crossesBoundary (d : DmaId) (ch : Channel) : Bool :=
  let floor : BitVec 32 := (ch.page ++ 0#16).setWidth 32 ||| (ch.baseAddr.setWidth 32 <<< unitShift d)
  let span : BitVec 32 := ch.baseCount.setWidth 32 <<< unitShift d
  let ceiling := if ch.mode.addrDecrement then floor - span else floor + span
  (floor ^^^ ceiling) >>> (16 + unitShift d) != 0

end Sys2Proof.Machine
end

