-- ==== Sys2Proof/Machine/Memory.lean ====
section
/-! DEFINITION. Physical memory (spec/00_scope.md R9, spec/20_memory.md R77, R78): reads and writes of a byte and of a
little-endian word, over the canonical list of cells. -/

namespace Sys2Proof.Machine

/-- `MemRead(a, 1)` (R9). -/
def Memory.read : Memory → Nat → Byte
  | [], _ => Config.memoryFill
  | (k, v) :: m, a => if k = a then v else Memory.read m a

/-- `MemWrite(a, 1, b)` (R9), in canonical form: rising addresses, no cell equal to the fill. -/
def Memory.write : Memory → Nat → Byte → Memory
  | [], a, b => if b = Config.memoryFill then [] else [(a, b)]
  | (k, v) :: m, a, b =>
    if a < k then (if b = Config.memoryFill then (k, v) :: m else (a, b) :: (k, v) :: m)
    else if a = k then (if b = Config.memoryFill then m else (a, b) :: m)
    else (k, v) :: Memory.write m a b

/-- The canonical form, above a bound: addresses at least `lo`, strictly rising, within the 24-bit space, and no cell equal
to what an unlisted address reads as. -/
def Memory.wfFrom : Nat → Memory → Bool
  | _, [] => true
  | lo, (k, v) :: m => lo ≤ k && k < 2 ^ 24 && v != Config.memoryFill && Memory.wfFrom (k + 1) m

/-- The canonical form of a memory: equal memories are equal lists. -/
def Memory.wf (m : Memory) : Bool := Memory.wfFrom 0 m

/-- `MemRead(a, 2)`: the byte at `a` is bits 7:0, the byte at `a + 1` bits 15:8 (R78). -/
def Memory.readWord (m : Memory) (a : PhysAddr) : Word :=
  m.read (a + 1).toNat ++ m.read a.toNat

/-- `MemWrite(a, 2, v)` (R78). -/
def Memory.writeWord (m : Memory) (a : PhysAddr) (v : Word) : Memory :=
  (m.write a.toNat (v.extractLsb' 0 8)).write (a + 1).toNat (v.extractLsb' 8 8)

/-- `MemRead(phys, 1 + d)` (41_dma.md R224) as a unit; a byte is a unit with high byte 0. The
A20 gate is not applied (notes/assumptions/26.md). -/
def Memory.readUnit (m : Memory) (d : DmaId) (a : PhysAddr) : Word :=
  match d with
  | .dma0 => (m.read a.toNat).setWidth 16
  | .dma1 => m.readWord a

/-- `MemWrite(phys, 1 + d, v)` (41_dma.md R224). The A20 gate is not applied (notes/assumptions/26.md). -/
def Memory.writeUnit (m : Memory) (d : DmaId) (a : PhysAddr) (v : Word) : Memory :=
  match d with
  | .dma0 => m.write a.toNat (v.extractLsb' 0 8)
  | .dma1 => m.writeWord a v

end Sys2Proof.Machine
end

