-- ==== Sys2Proof/Machine/Ops.lean ====
section
/-! DEFINITION. The shared operations: answering, logging, failing (spec/00_scope.md R11), and the PIC pair's routines
(spec/40_pic.md): service, request lines, end of interrupt (the block's part of a trap return, 60_exceptions.md R386) and
interrupt acknowledge (its part of a trap entry, R385). -/

namespace Sys2Proof.Machine

/-! ## Answering, logging, failing -/

/-- The operation ends with this answer. -/
def answer (r : Reply) (s : State) : Result := .next { s with reply := r }

/-- The operation ends and answers nothing. -/
def finish (s : State) : Result := answer .done s

/-- `raise` (R11): the access ends, the failure is reported to the bus, what the rule changed before stands, and the
machine goes on (60_exceptions.md R380). -/
def raise (f : Failure) (s : State) : Result := answer (.raised f) s

/-- What the CPU gets for a byte read that answered `r`: the byte, or after a failure the bus's own value (R74). -/
def Reply.cpuByte : Reply → Option Byte
  | .byte b => some b
  | .raised _ => some Config.busFailReadValue
  | .done | .word _ | .dword _ | .vector _ | .irqNumber _ | .irqUnsupported | .registered _ | .pollCode _ => none

/-- `Log(kind)` (R10). -/
def State.note (s : State) (k : LogKind) : State := { s with log := s.log ++ [k] }

/-- `Log(kind)` under a condition. -/
def State.noteIf (s : State) (b : Bool) (k : LogKind) : State := if b then s.note k else s

/-- A call on a collaborator. -/
def State.emit (s : State) (o : Output) : State := { s with outputs := s.outputs ++ [o] }

/-! ## PIC: arbitration (40_pic.md section 1) -/

/-- The eight inputs in priority order, from `hp` (10_state.md R25). -/
def circle (hp : Input) : List Input := [hp, hp + 1, hp + 2, hp + 3, hp + 4, hp + 5, hp + 6, hp + 7]

/-- The highest-priority input, `(lowest_priority + 1) mod 8`. -/
def Pic.highest (p : Pic) : Input := p.lowestPriority + 1

/-- The inputs that R140 scans: all eight under special mask or with nothing in service, else those before the first
in-service input. -/
def Pic.candidates (p : Pic) : List Input :=
  if p.specialMask || p.isr == 0 then circle p.highest
  else (circle p.highest).takeWhile fun i => !bitAt p.isr i

/-- The input that a run of R140 latches, if any. -/
def Pic.latch (p : Pic) : Option Input :=
  if p.intRequestPin then none
  else p.candidates.find? fun i =>
    bitAt p.irr i && !bitAt p.imr i && !(Config.picSmmSkipInservice && p.specialMask && bitAt p.isr i)

/-- A controller with input `i` latched (R140). -/
def Pic.latched (p : Pic) (i : Input) : Pic := { p with currentIrq := i, intRequestPin := true }

/-- A controller whose pin and request bit of input `i` have been raised (R143). -/
def Pic.raised (p : Pic) (i : Input) : Pic :=
  { p with irqPin := setBitAt p.irqPin i true, irr := setBitAt p.irr i true }

/-- `service(0)` (R140, R141): a latched request raises INTR. -/
def serviceMaster (s : State) : State :=
  match s.master.latch with
  | none => s
  | some i => { s with master := s.master.latched i, intr := true }

/-- `setIRQ` on a master input (R143): an edge on the pin, then service. -/
def setIrqMaster (i : Input) (s : State) : State :=
  if bitAt s.master.irqPin i then s
  else serviceMaster { s with master := s.master.raised i }

/-- `service(1)` (R140, R141): a latched request runs `setIRQ(2)` on the master. -/
def serviceSlave (s : State) : State :=
  match s.slave.latch with
  | none => s
  | some i => setIrqMaster 2 { s with slave := s.slave.latched i }

/-- `setIRQ` on a slave input (R143). -/
def setIrqSlave (i : Input) (s : State) : State :=
  if bitAt s.slave.irqPin i then s
  else serviceSlave { s with slave := s.slave.raised i }

/-- `service(c)` (R140). -/
def service (c : PicId) (s : State) : State :=
  match c with
  | .master => serviceMaster s
  | .slave => serviceSlave s

/-- `setIRQ(n)` (R143). -/
def setIrq (n : BitVec 4) (s : State) : State :=
  match irqController n with
  | .master => setIrqMaster (irqInput n) s
  | .slave => setIrqSlave (irqInput n) s

/-- `clearIRQ(n)` (R144): the pin and the request bit go down; no service. -/
def clearIrq (n : BitVec 4) (s : State) : State :=
  let c := irqController n
  let p := s.pic c
  if bitAt p.irqPin (irqInput n) then
    s.setPic c { p with irqPin := setBitAt p.irqPin (irqInput n) false, irr := setBitAt p.irr (irqInput n) false }
  else s

/-- `clear_highest(c)` (R142) on one controller: the first in-service input from the highest priority. -/
def Pic.clearHighest (p : Pic) : Pic :=
  match (circle p.highest).find? (bitAt p.isr) with
  | none => p
  | some i => { p with isr := setBitAt p.isr i false }

/-! ## PIC: initialization and command words (40_pic.md sections 3 and 4) -/

/-- ICW1 (R146). -/
def icw1 (c : PicId) (data : Byte) (s : State) : State :=
  let p := s.pic c
  let s := s.setPic c
    { p with
      inInit := true, byteExpected := .icw2, icw1Single := icw1Sngl data, levelMode := icw1Ltim data,
      imr := 0x00, isr := 0x00, irr := 0x00, lowestPriority := 7, intRequestPin := false,
      autoEoi := false, rotateOnAutoEoi := false }
  match c with
  | .master => { s with intr := false }
  | .slave => { s with master := { s.master with irqPin := setBitAt s.master.irqPin 2 false } }

/-- ICW2 (R147). -/
def icw2 (c : PicId) (data : Byte) (s : State) : State :=
  s.setPic c { s.pic c with offset := icw2Offset data, byteExpected := .icw3 }

/-- ICW3 (R148): the word is consumed whatever it holds. -/
def icw3 (c : PicId) (s : State) : State :=
  let p := s.pic c
  s.setPic c (if p.icw1Single then { p with inInit := false } else { p with byteExpected := .icw4 })

/-- ICW4 (R149). -/
def icw4 (c : PicId) (data : Byte) (s : State) : State :=
  (s.setPic c { s.pic c with autoEoi := icw4Aeoi data, inInit := false }).noteIf (!icw4Upm data) (.picNot8086 c)

/-- OCW1 (R150). -/
def ocw1 (c : PicId) (data : Byte) (s : State) : State :=
  service c (s.setPic c { s.pic c with imr := data })

/-- Non-specific EOI (R151). -/
def eoi (c : PicId) (s : State) : State :=
  service c (s.setPic c (s.pic c).clearHighest)

/-- Rotate on non-specific EOI (R152): the in-service bit is found with the old priority. -/
def eoiRotate (c : PicId) (s : State) : State :=
  let p := (s.pic c).clearHighest
  service c (s.setPic c { p with lowestPriority := p.lowestPriority + 1 })

/-- Specific EOI (R153). -/
def specificEoi (c : PicId) (level : Input) (s : State) : State :=
  let p := s.pic c
  service c (s.setPic c { p with isr := setBitAt p.isr level false })

/-- Specific EOI with rotate (R154). -/
def specificEoiRotate (c : PicId) (level : Input) (s : State) : State :=
  let p := s.pic c
  service c (s.setPic c { p with isr := setBitAt p.isr level false, lowestPriority := level })

/-- Set priority (R155): no service. -/
def setPriority (c : PicId) (level : Input) (s : State) : State :=
  s.setPic c { s.pic c with lowestPriority := level }

/-- Rotate in auto-EOI mode, set and clear (R157). -/
def setRotateOnAutoEoi (c : PicId) (b : Bool) (s : State) : State :=
  s.setPic c { s.pic c with rotateOnAutoEoi := b }

/-- The two-bit selector of OCW3 (R105): 0b10 clears, 0b11 sets, 0b00 and 0b01 leave the flag. -/
def selectFlag (v : BitVec 2) (old : Bool) : Bool :=
  if v = 0b10 then false else if v = 0b11 then true else old

/-- OCW3 (R159): a poll command looks at no other field. -/
def ocw3 (c : PicId) (data : Byte) (s : State) : State :=
  let p := s.pic c
  if ocw3Poll data then s.setPic c { p with polled := true }
  else
    let s := s.setPic c
      { p with
        polled := false
        readIsrSelect := selectFlag (ocw3RrRis data) p.readIsrSelect
        specialMask := selectFlag (ocw3EsmmSmm data) p.specialMask }
    if ocw3EsmmSmm data = 0b11 then service c s else s

/-! ## PIC: reads (40_pic.md section 5) -/

/-- What a command-port read returns outside polled mode (R160). -/
def Pic.commandRead (p : Pic) : Byte := if p.readIsrSelect then p.isr else p.irr

/-- The state after a polled read (R162). -/
def poll (c : PicId) (s : State) : State :=
  service c (s.setPic c { (s.pic c).clearHighest with polled := false })

/-- What a polled read returns, from the state after it (R162): the current IRQ number, zero-extended. -/
def Pic.pollRead (p : Pic) : Byte := p.currentIrq.setWidth 8

/-! ## PIC: acknowledge (40_pic.md section 6) -/

/-- The vector of input `i`. -/
def Pic.vectorOf (p : Pic) (i : Input) : Byte := p.offset + i.setWidth 8

/-- The spurious vector, `offset + 7` (R165). -/
def Pic.spuriousVector (p : Pic) : Byte := p.offset + 7

/-- The bookkeeping of an acknowledged input (R163, R164): IRR bit cleared unless level-triggered, ISR bit set unless
auto-EOI, and with auto-EOI the rotation. -/
def Pic.acknowledged (p : Pic) (i : Input) : Pic :=
  { p with
    irr := if p.levelMode then p.irr else setBitAt p.irr i false
    isr := if p.autoEoi then p.isr else setBitAt p.isr i true
    lowestPriority := if p.autoEoi && p.rotateOnAutoEoi then i else p.lowestPriority }

/-- The head of `cascade_ack()` (R164): the slave's request is no longer pending, and master pin 2 goes down. -/
def cascadeHead (s : State) : State :=
  { s with
    slave := { s.slave with intRequestPin := false }
    master := { s.master with irqPin := setBitAt s.master.irqPin 2 false } }

/-- `interruptAcknowledge()` (R163 to R165): the vector and the state after. -/
def acknowledge (s : State) : Byte × State :=
  let s := { s with intr := false, master := { s.master with intRequestPin := false } }
  if s.master.irr = 0x00 then (s.master.spuriousVector, s)
  else
    let m := s.master.currentIrq
    let s := { s with master := s.master.acknowledged m }
    if m ≠ 2 then (s.master.vectorOf m, serviceMaster s)
    else
      let s := cascadeHead s
      if s.slave.irr = 0x00 then (s.slave.spuriousVector, s)
      else
        let i := s.slave.currentIrq
        let s := { s with slave := s.slave.acknowledged i }
        (s.slave.vectorOf i, serviceMaster (serviceSlave s))

end Sys2Proof.Machine
end

