-- ==== Sys2Proof/Machine/DmaOps.lean ====
section
/-! DEFINITION. The DMA pair's shared operations (spec/41_dma.md): request lines and hold-request arbitration, register
accesses, and the transfer performed on a bus grant. -/

namespace Sys2Proof.Machine

/-! ## Requests and arbitration (section 1) -/

/-- The request line of a channel (R204): DRQ flag, status request bit and, on assertion, the two diagnostics; without
the arbitration that follows. -/
def requestLine (d : DmaId) (j : Chan) (b : Bool) (s : State) : State :=
  let x := s.dma d
  let s := s.setDma d { x with drq := x.drq.set j b, status := setBit x.status (4 + chanIndex j) b }
  if b then
    (s.noteIf ((s.chan d j).mode.modeType == .block) (.dmaBlockMode d j)).noteIf
      (crossesBoundary d (s.chan d j)) (.dmaBoundary d j)
  else s

/-- `hrq_eval(1)` (R202): controller 1 drives the CPU's hold-request line. -/
def holdEval1 (s : State) : State := { s with hrq := s.dma1.wantsHold }

/-- `setDMARequest` on controller 1 (R204). -/
def setRequest1 (j : Chan) (b : Bool) (s : State) : State := holdEval1 (requestLine .dma1 j b s)

/-- `hrq_eval(0)` (R202): controller 0 drives the cascade channel's request, `setDMARequest(4, want)`. -/
def holdEval0 (s : State) : State := setRequest1 .c0 s.dma0.wantsHold s

/-- `hrq_eval(d)` (R202). -/
def holdEval (d : DmaId) (s : State) : State :=
  match d with
  | .dma0 => holdEval0 s
  | .dma1 => holdEval1 s

/-- `setDMARequest(g, b)` (R204), `g` as controller and local channel. -/
def setRequest (d : DmaId) (j : Chan) (b : Bool) (s : State) : State := holdEval d (requestLine d j b s)

/-- `registerChannel(g, handler)` (R200): success and the state after; a `g` above 7 fails. -/
def registerHandler (g : BitVec 32) (h : Handler) (s : State) : Bool × State :=
  if 8 ≤ g then (false, s)
  else
    let d := globalController (g.setWidth 3)
    let j := globalChan (g.setWidth 3)
    let x := s.dma d
    if (x.chan.get j).inUse then (false, s)
    else
      (true, s.setDma d
        { x with chan := x.chan.set j { x.chan.get j with inUse := true }, handler := x.handler.set j (some h) })

/-! ## Register accesses (sections 2 and 3) -/

/-- The flip-flop of a controller toggled. -/
def toggleFlipflop (d : DmaId) (s : State) : State :=
  s.setDma d { s.dma d with flipflop := !(s.dma d).flipflop }

/-- Address write (R205): base and current, the half the flip-flop selects. -/
def addressWrite (d : DmaId) (j : Chan) (data : Byte) (s : State) : State :=
  let ff := (s.dma d).flipflop
  let ch := s.chan d j
  toggleFlipflop d
    (s.setChan d j { ch with baseAddr := setHalf ff ch.baseAddr data, curAddr := setHalf ff ch.curAddr data })

/-- Count write (R206). -/
def countWrite (d : DmaId) (j : Chan) (data : Byte) (s : State) : State :=
  let ff := (s.dma d).flipflop
  let ch := s.chan d j
  toggleFlipflop d
    (s.setChan d j { ch with baseCount := setHalf ff ch.baseCount data, curCount := setHalf ff ch.curCount data })

/-- Address read (R207): the selected half of the current address. -/
def addressRead (d : DmaId) (j : Chan) (s : State) : Result :=
  answer (.byte (halfOf (s.dma d).flipflop (s.chan d j).curAddr)) (toggleFlipflop d s)

/-- Count read (R208). -/
def countRead (d : DmaId) (j : Chan) (s : State) : Result :=
  answer (.byte (halfOf (s.dma d).flipflop (s.chan d j).curCount)) (toggleFlipflop d s)

/-- Command write (R209). -/
def commandWrite (d : DmaId) (data : Byte) (s : State) : State :=
  let s := s.noteIf (commandUnsupported data) (.dmaCommandBits d data)
  holdEval d (s.setDma d { s.dma d with command := data, disabled := commandDisable data })

/-- Status read (R210): the terminal-count bits are cleared. -/
def statusRead (d : DmaId) (s : State) : Result :=
  let v := (s.dma d).status
  answer (.byte v) (s.setDma d { s.dma d with status := v &&& 0xF0 })

/-- Single-channel mask write (R212). -/
def singleMaskWrite (d : DmaId) (data : Byte) (s : State) : State :=
  holdEval d (s.setDma d { s.dma d with mask := (s.dma d).mask.set (byteChan data) (singleMaskBit data) })

/-- Mode write (R213). -/
def modeWrite (d : DmaId) (data : Byte) (s : State) : State :=
  s.setChan d (byteChan data) { s.chan d (byteChan data) with mode := modeOf data }

/-- Clear flip-flop (R214). -/
def clearFlipflop (d : DmaId) (s : State) : State := s.setDma d { s.dma d with flipflop := false }

/-- Master clear (R215). -/
def masterClear (d : DmaId) (s : State) : State :=
  holdEval d (s.setDma d
    { s.dma d with mask := Quad.all true, command := 0x00, disabled := false, status := 0x00, flipflop := false })

/-- Clear mask (R216). -/
def clearMask (d : DmaId) (s : State) : State := holdEval d (s.setDma d { s.dma d with mask := Quad.all false })

/-- Full mask write (R217). -/
def fullMaskWrite (d : DmaId) (data : Byte) (s : State) : State :=
  holdEval d (s.setDma d { s.dma d with mask := fullMask data })

/-- Page write (R218). -/
def pageWrite (d : DmaId) (j : Chan) (data : Byte) (s : State) : State :=
  s.setChan d j { s.chan d j with page := data }

/-- Page read (R219). -/
def pageRead (d : DmaId) (j : Chan) (s : State) : Result := answer (.byte (s.chan d j).page) s

/-- Extra page write (R220). -/
def extWrite (x : ExtSlot) (data : Byte) (s : State) : State := { s with ext := s.ext.set x data }

/-- Extra page read (R220). -/
def extRead (x : ExtSlot) (s : State) : Result := answer (.byte (s.ext.get x)) s

/-! ## The transfer (section 4) -/

/-- A channel after the register part of a transfer (R223). `reached` is the wrap of the count from 0. -/
def Channel.stepped (ch : Channel) : Channel :=
  if ch.curCount = 0 ∧ ch.mode.autoinit = true then { ch with curAddr := ch.baseAddr, curCount := ch.baseCount }
  else
    { ch with
      curAddr := if ch.mode.addrDecrement then ch.curAddr - 1 else ch.curAddr + 1
      curCount := ch.curCount - 1 }

/-- Channel `j` is acknowledged, and no other channel of the controller (10_state.md R34, 90_conflicts.md C4;
notes/assumptions/16.md). -/
def Dma.acknowledge (x : Dma) (j : Chan) : Dma := { x with dack := (Quad.all false).set j true }

/-- The register part (R223): DACK, the channel, and at terminal count the status bit, the TC output and, without
auto-init, the mask. -/
def transferRegisters (d : DmaId) (j : Chan) (s : State) : State :=
  let x := s.dma d
  let ch := x.chan.get j
  let reached := ch.curCount == 0
  let s := s.setDma d
    { x.acknowledge j with
      chan := x.chan.set j ch.stepped
      status := if reached then setBit x.status (chanIndex j) true else x.status
      mask := if reached && !ch.mode.autoinit then x.mask.set j true else x.mask }
  if reached then { s with tc := true } else s

/-- `Handler[g].DevToMem(n)` (00_scope.md R10, 41_dma.md R224): the unit the device hands over and the state after. The
device's supply list gives it, and a free value once that is empty (notes/assumptions/11.md). -/
def devToMem (d : DmaId) (j : Chan) (s : State) : Word × State :=
  let s := s.emit (.devToMem d j s.tc)
  match s.env.supply d j with
  | v :: rest => (v, { s with env := s.env.setSupply d j rest })
  | [] => (Config.deviceUnit s.env.freeUnits, { s with env := { s.env with freeUnits := s.env.freeUnits + 1 } })

/-- The data part (R224, R226), at the address `phys` taken before the registers advanced. DESIGN CHOICE, unsafe
(notes/assumptions/26.md): memory is reached at `phys` whatever the A20 gate is; 20_memory.md R86 leaves it open whether
the memory collaborator applies the gate to it. -/
def transferData (d : DmaId) (j : Chan) (t : TransferType) (phys : PhysAddr) (s : State) : State :=
  let h := ((s.dma d).handler.get j).getD noopHandler
  match t with
  | .writeToMemory =>
    if h.devToMem then
      let (v, s) := devToMem d j s
      { s with env := { s.env with mem := s.env.mem.writeUnit d phys v } }
    else s.note (.dmaMissingHandler d j)
  | .readFromMemory =>
    if h.memToDev then s.emit (.memToDev d j (s.env.mem.readUnit d phys) s.tc)
    else s.note (.dmaMissingHandler d j)
  | .verify => if h.devToMem then (devToMem d j s).2 else s.note (.dmaMissingHandler d j)
  | .undefinedType => s.note (.dmaUndefinedTransferType d j)

/-- The release part after a terminal count (R225). -/
def transferRelease (d : DmaId) (j : Chan) (s : State) : State :=
  let s := { s with tc := false, hlda := false, hrq := false }
  let s := s.setDma d { s.dma d with dack := (s.dma d).dack.set j false }
  match d with
  | .dma1 => s
  | .dma0 =>
    let s := setRequest1 .c0 false s
    { s with dma1 := { s.dma1 with dack := s.dma1.dack.set .c0 false } }

/-- `transfer(d, j)` (R223 to R226). -/
def transfer (d : DmaId) (j : Chan) (s : State) : State :=
  let ch := s.chan d j
  let t := transferData d j ch.mode.transferType (physAddr d ch) (transferRegisters d j s)
  if ch.curCount = 0 then transferRelease d j t else t

/-- `acknowledgeBusHold()` (R222): controller 1 first; its cascade channel re-selects within controller 0. -/
def busHold (s : State) : State :=
  let s := { s with hlda := true }
  match s.dma1.select with
  | none => s
  | some .c0 =>
    let s := { s with dma1 := s.dma1.acknowledge .c0 }
    match s.dma0.select with
    | none => s
    | some j => transfer .dma0 j s
  | some .c1 => transfer .dma1 .c1 s
  | some .c2 => transfer .dma1 .c2 s
  | some .c3 => transfer .dma1 .c3 s

end Sys2Proof.Machine
end

