-- ==== Sys2Proof/Machine/Dma.lean ====
section
/-! DEFINITION. The DMA pair's port operations (spec/41_dma.md sections 2 and 3), one meaning for each row. -/

namespace Sys2Proof.Machine

/-- `DMA0_ADDR0_W` (41_dma.md R205). -/
def execDma0Addr0W (data : Byte) (s : State) : Result := finish (addressWrite .dma0 .c0 data s)

/-- `DMA0_ADDR0_R` (41_dma.md R207). -/
def execDma0Addr0R (s : State) : Result := addressRead .dma0 .c0 s

/-- `DMA0_COUNT0_W` (41_dma.md R206). -/
def execDma0Count0W (data : Byte) (s : State) : Result := finish (countWrite .dma0 .c0 data s)

/-- `DMA0_COUNT0_R` (41_dma.md R208). -/
def execDma0Count0R (s : State) : Result := countRead .dma0 .c0 s

/-- `DMA0_ADDR1_W` (41_dma.md R205). -/
def execDma0Addr1W (data : Byte) (s : State) : Result := finish (addressWrite .dma0 .c1 data s)

/-- `DMA0_ADDR1_R` (41_dma.md R207). -/
def execDma0Addr1R (s : State) : Result := addressRead .dma0 .c1 s

/-- `DMA0_COUNT1_W` (41_dma.md R206). -/
def execDma0Count1W (data : Byte) (s : State) : Result := finish (countWrite .dma0 .c1 data s)

/-- `DMA0_COUNT1_R` (41_dma.md R208). -/
def execDma0Count1R (s : State) : Result := countRead .dma0 .c1 s

/-- `DMA0_ADDR2_W` (41_dma.md R205). -/
def execDma0Addr2W (data : Byte) (s : State) : Result := finish (addressWrite .dma0 .c2 data s)

/-- `DMA0_ADDR2_R` (41_dma.md R207). -/
def execDma0Addr2R (s : State) : Result := addressRead .dma0 .c2 s

/-- `DMA0_COUNT2_W` (41_dma.md R206). -/
def execDma0Count2W (data : Byte) (s : State) : Result := finish (countWrite .dma0 .c2 data s)

/-- `DMA0_COUNT2_R` (41_dma.md R208). -/
def execDma0Count2R (s : State) : Result := countRead .dma0 .c2 s

/-- `DMA0_ADDR3_W` (41_dma.md R205). -/
def execDma0Addr3W (data : Byte) (s : State) : Result := finish (addressWrite .dma0 .c3 data s)

/-- `DMA0_ADDR3_R` (41_dma.md R207). -/
def execDma0Addr3R (s : State) : Result := addressRead .dma0 .c3 s

/-- `DMA0_COUNT3_W` (41_dma.md R206). -/
def execDma0Count3W (data : Byte) (s : State) : Result := finish (countWrite .dma0 .c3 data s)

/-- `DMA0_COUNT3_R` (41_dma.md R208). -/
def execDma0Count3R (s : State) : Result := countRead .dma0 .c3 s

/-- `DMA0_COMMAND_W` (41_dma.md R209). -/
def execDma0CommandW (data : Byte) (s : State) : Result := finish (commandWrite .dma0 data s)

/-- `DMA0_STATUS_R` (41_dma.md R210). -/
def execDma0StatusR (s : State) : Result := statusRead .dma0 s

/-- `DMA0_REQUEST_W` (41_dma.md R211). -/
def execDma0RequestW (_data : Byte) (s : State) : Result := finish (s.note (.dmaRequestWrite .dma0))

/-- `DMA0_SINGLE_MASK_W` (41_dma.md R212). -/
def execDma0SingleMaskW (data : Byte) (s : State) : Result := finish (singleMaskWrite .dma0 data s)

/-- `DMA0_MODE_W` (41_dma.md R213). -/
def execDma0ModeW (data : Byte) (s : State) : Result := finish (modeWrite .dma0 data s)

/-- `DMA0_CLEAR_FLIPFLOP` (41_dma.md R214). -/
def execDma0ClearFlipflop (_data : Byte) (s : State) : Result := finish (clearFlipflop .dma0 s)

/-- `DMA0_MASTER_CLEAR` (41_dma.md R215). -/
def execDma0MasterClear (_data : Byte) (s : State) : Result := finish (masterClear .dma0 s)

/-- `DMA0_CLEAR_MASK` (41_dma.md R216). -/
def execDma0ClearMask (_data : Byte) (s : State) : Result := finish (clearMask .dma0 s)

/-- `DMA0_FULL_MASK_W` (41_dma.md R217). -/
def execDma0FullMaskW (data : Byte) (s : State) : Result := finish (fullMaskWrite .dma0 data s)

/-- `DMA0_WRITE_ONLY_R_9` (41_dma.md R221). -/
def execDma0WriteOnlyR9 (s : State) : Result := raise (.writeOnlyPortRead 0x09) s

/-- `DMA0_WRITE_ONLY_R_A` (41_dma.md R221). -/
def execDma0WriteOnlyRA (s : State) : Result := raise (.writeOnlyPortRead 0x0A) s

/-- `DMA0_WRITE_ONLY_R_B` (41_dma.md R221). -/
def execDma0WriteOnlyRB (s : State) : Result := raise (.writeOnlyPortRead 0x0B) s

/-- `DMA0_WRITE_ONLY_R_C` (41_dma.md R221). -/
def execDma0WriteOnlyRC (s : State) : Result := raise (.writeOnlyPortRead 0x0C) s

/-- `DMA0_WRITE_ONLY_R_D` (41_dma.md R221). -/
def execDma0WriteOnlyRD (s : State) : Result := raise (.writeOnlyPortRead 0x0D) s

/-- `DMA0_WRITE_ONLY_R_E` (41_dma.md R221). -/
def execDma0WriteOnlyRE (s : State) : Result := raise (.writeOnlyPortRead 0x0E) s

/-- `DMA0_WRITE_ONLY_R_F` (41_dma.md R221). -/
def execDma0WriteOnlyRF (s : State) : Result := raise (.writeOnlyPortRead 0x0F) s

/-- `DMA1_ADDR0_W` (41_dma.md R205). -/
def execDma1Addr0W (data : Byte) (s : State) : Result := finish (addressWrite .dma1 .c0 data s)

/-- `DMA1_ADDR0_R` (41_dma.md R207). -/
def execDma1Addr0R (s : State) : Result := addressRead .dma1 .c0 s

/-- `DMA1_COUNT0_W` (41_dma.md R206). -/
def execDma1Count0W (data : Byte) (s : State) : Result := finish (countWrite .dma1 .c0 data s)

/-- `DMA1_COUNT0_R` (41_dma.md R208). -/
def execDma1Count0R (s : State) : Result := countRead .dma1 .c0 s

/-- `DMA1_ADDR1_W` (41_dma.md R205). -/
def execDma1Addr1W (data : Byte) (s : State) : Result := finish (addressWrite .dma1 .c1 data s)

/-- `DMA1_ADDR1_R` (41_dma.md R207). -/
def execDma1Addr1R (s : State) : Result := addressRead .dma1 .c1 s

/-- `DMA1_COUNT1_W` (41_dma.md R206). -/
def execDma1Count1W (data : Byte) (s : State) : Result := finish (countWrite .dma1 .c1 data s)

/-- `DMA1_COUNT1_R` (41_dma.md R208). -/
def execDma1Count1R (s : State) : Result := countRead .dma1 .c1 s

/-- `DMA1_ADDR2_W` (41_dma.md R205). -/
def execDma1Addr2W (data : Byte) (s : State) : Result := finish (addressWrite .dma1 .c2 data s)

/-- `DMA1_ADDR2_R` (41_dma.md R207). -/
def execDma1Addr2R (s : State) : Result := addressRead .dma1 .c2 s

/-- `DMA1_COUNT2_W` (41_dma.md R206). -/
def execDma1Count2W (data : Byte) (s : State) : Result := finish (countWrite .dma1 .c2 data s)

/-- `DMA1_COUNT2_R` (41_dma.md R208). -/
def execDma1Count2R (s : State) : Result := countRead .dma1 .c2 s

/-- `DMA1_ADDR3_W` (41_dma.md R205). -/
def execDma1Addr3W (data : Byte) (s : State) : Result := finish (addressWrite .dma1 .c3 data s)

/-- `DMA1_ADDR3_R` (41_dma.md R207). -/
def execDma1Addr3R (s : State) : Result := addressRead .dma1 .c3 s

/-- `DMA1_COUNT3_W` (41_dma.md R206). -/
def execDma1Count3W (data : Byte) (s : State) : Result := finish (countWrite .dma1 .c3 data s)

/-- `DMA1_COUNT3_R` (41_dma.md R208). -/
def execDma1Count3R (s : State) : Result := countRead .dma1 .c3 s

/-- `DMA1_COMMAND_W` (41_dma.md R209). -/
def execDma1CommandW (data : Byte) (s : State) : Result := finish (commandWrite .dma1 data s)

/-- `DMA1_STATUS_R` (41_dma.md R210). -/
def execDma1StatusR (s : State) : Result := statusRead .dma1 s

/-- `DMA1_REQUEST_W` (41_dma.md R211). -/
def execDma1RequestW (_data : Byte) (s : State) : Result := finish (s.note (.dmaRequestWrite .dma1))

/-- `DMA1_SINGLE_MASK_W` (41_dma.md R212). -/
def execDma1SingleMaskW (data : Byte) (s : State) : Result := finish (singleMaskWrite .dma1 data s)

/-- `DMA1_MODE_W` (41_dma.md R213). -/
def execDma1ModeW (data : Byte) (s : State) : Result := finish (modeWrite .dma1 data s)

/-- `DMA1_CLEAR_FLIPFLOP` (41_dma.md R214). -/
def execDma1ClearFlipflop (_data : Byte) (s : State) : Result := finish (clearFlipflop .dma1 s)

/-- `DMA1_MASTER_CLEAR` (41_dma.md R215). -/
def execDma1MasterClear (_data : Byte) (s : State) : Result := finish (masterClear .dma1 s)

/-- `DMA1_CLEAR_MASK` (41_dma.md R216). -/
def execDma1ClearMask (_data : Byte) (s : State) : Result := finish (clearMask .dma1 s)

/-- `DMA1_FULL_MASK_W` (41_dma.md R217). -/
def execDma1FullMaskW (data : Byte) (s : State) : Result := finish (fullMaskWrite .dma1 data s)

/-- `DMA1_WRITE_ONLY_R_9` (41_dma.md R221). -/
def execDma1WriteOnlyR9 (s : State) : Result := raise (.writeOnlyPortRead 0xD2) s

/-- `DMA1_WRITE_ONLY_R_A` (41_dma.md R221). -/
def execDma1WriteOnlyRA (s : State) : Result := raise (.writeOnlyPortRead 0xD4) s

/-- `DMA1_WRITE_ONLY_R_B` (41_dma.md R221). -/
def execDma1WriteOnlyRB (s : State) : Result := raise (.writeOnlyPortRead 0xD6) s

/-- `DMA1_WRITE_ONLY_R_C` (41_dma.md R221). -/
def execDma1WriteOnlyRC (s : State) : Result := raise (.writeOnlyPortRead 0xD8) s

/-- `DMA1_WRITE_ONLY_R_D` (41_dma.md R221). -/
def execDma1WriteOnlyRD (s : State) : Result := raise (.writeOnlyPortRead 0xDA) s

/-- `DMA1_WRITE_ONLY_R_E` (41_dma.md R221). -/
def execDma1WriteOnlyRE (s : State) : Result := raise (.writeOnlyPortRead 0xDC) s

/-- `DMA1_WRITE_ONLY_R_F` (41_dma.md R221). -/
def execDma1WriteOnlyRF (s : State) : Result := raise (.writeOnlyPortRead 0xDE) s

/-- `DMA_PAGE_G0_W` (41_dma.md R218). -/
def execDmaPageG0W (data : Byte) (s : State) : Result := finish (pageWrite .dma0 .c0 data s)

/-- `DMA_PAGE_G0_R` (41_dma.md R219). -/
def execDmaPageG0R (s : State) : Result := pageRead .dma0 .c0 s

/-- `DMA_PAGE_G1_W` (41_dma.md R218). -/
def execDmaPageG1W (data : Byte) (s : State) : Result := finish (pageWrite .dma0 .c1 data s)

/-- `DMA_PAGE_G1_R` (41_dma.md R219). -/
def execDmaPageG1R (s : State) : Result := pageRead .dma0 .c1 s

/-- `DMA_PAGE_G2_W` (41_dma.md R218). -/
def execDmaPageG2W (data : Byte) (s : State) : Result := finish (pageWrite .dma0 .c2 data s)

/-- `DMA_PAGE_G2_R` (41_dma.md R219). -/
def execDmaPageG2R (s : State) : Result := pageRead .dma0 .c2 s

/-- `DMA_PAGE_G3_W` (41_dma.md R218). -/
def execDmaPageG3W (data : Byte) (s : State) : Result := finish (pageWrite .dma0 .c3 data s)

/-- `DMA_PAGE_G3_R` (41_dma.md R219). -/
def execDmaPageG3R (s : State) : Result := pageRead .dma0 .c3 s

/-- `DMA_PAGE_G4_W` (41_dma.md R218). -/
def execDmaPageG4W (data : Byte) (s : State) : Result := finish (pageWrite .dma1 .c0 data s)

/-- `DMA_PAGE_G4_R` (41_dma.md R219). -/
def execDmaPageG4R (s : State) : Result := pageRead .dma1 .c0 s

/-- `DMA_PAGE_G5_W` (41_dma.md R218). -/
def execDmaPageG5W (data : Byte) (s : State) : Result := finish (pageWrite .dma1 .c1 data s)

/-- `DMA_PAGE_G5_R` (41_dma.md R219). -/
def execDmaPageG5R (s : State) : Result := pageRead .dma1 .c1 s

/-- `DMA_PAGE_G6_W` (41_dma.md R218). -/
def execDmaPageG6W (data : Byte) (s : State) : Result := finish (pageWrite .dma1 .c2 data s)

/-- `DMA_PAGE_G6_R` (41_dma.md R219). -/
def execDmaPageG6R (s : State) : Result := pageRead .dma1 .c2 s

/-- `DMA_PAGE_G7_W` (41_dma.md R218). -/
def execDmaPageG7W (data : Byte) (s : State) : Result := finish (pageWrite .dma1 .c3 data s)

/-- `DMA_PAGE_G7_R` (41_dma.md R219). -/
def execDmaPageG7R (s : State) : Result := pageRead .dma1 .c3 s

/-- `DMA_EXTPAGE_80_W` (41_dma.md R220). -/
def execDmaExtpage80W (data : Byte) (s : State) : Result := finish (extWrite .x80 data s)

/-- `DMA_EXTPAGE_80_R` (41_dma.md R220). -/
def execDmaExtpage80R (s : State) : Result := extRead .x80 s

/-- `DMA_EXTPAGE_84_W` (41_dma.md R220). -/
def execDmaExtpage84W (data : Byte) (s : State) : Result := finish (extWrite .x84 data s)

/-- `DMA_EXTPAGE_84_R` (41_dma.md R220). -/
def execDmaExtpage84R (s : State) : Result := extRead .x84 s

/-- `DMA_EXTPAGE_85_W` (41_dma.md R220). -/
def execDmaExtpage85W (data : Byte) (s : State) : Result := finish (extWrite .x85 data s)

/-- `DMA_EXTPAGE_85_R` (41_dma.md R220). -/
def execDmaExtpage85R (s : State) : Result := extRead .x85 s

/-- `DMA_EXTPAGE_86_W` (41_dma.md R220). -/
def execDmaExtpage86W (data : Byte) (s : State) : Result := finish (extWrite .x86 data s)

/-- `DMA_EXTPAGE_86_R` (41_dma.md R220). -/
def execDmaExtpage86R (s : State) : Result := extRead .x86 s

/-- `DMA_EXTPAGE_88_W` (41_dma.md R220). -/
def execDmaExtpage88W (data : Byte) (s : State) : Result := finish (extWrite .x88 data s)

/-- `DMA_EXTPAGE_88_R` (41_dma.md R220). -/
def execDmaExtpage88R (s : State) : Result := extRead .x88 s

/-- `DMA_EXTPAGE_8C_W` (41_dma.md R220). -/
def execDmaExtpage8CW (data : Byte) (s : State) : Result := finish (extWrite .x8C data s)

/-- `DMA_EXTPAGE_8C_R` (41_dma.md R220). -/
def execDmaExtpage8CR (s : State) : Result := extRead .x8C s

/-- `DMA_EXTPAGE_8D_W` (41_dma.md R220). -/
def execDmaExtpage8DW (data : Byte) (s : State) : Result := finish (extWrite .x8D data s)

/-- `DMA_EXTPAGE_8D_R` (41_dma.md R220). -/
def execDmaExtpage8DR (s : State) : Result := extRead .x8D s

/-- `DMA_EXTPAGE_8E_W` (41_dma.md R220). -/
def execDmaExtpage8EW (data : Byte) (s : State) : Result := finish (extWrite .x8E data s)

/-- `DMA_EXTPAGE_8E_R` (41_dma.md R220). -/
def execDmaExtpage8ER (s : State) : Result := extRead .x8E s

end Sys2Proof.Machine
end

