-- ==== Sys2Proof/Machine/KbcOps.lean ====
section
/-! DEFINITION. The keyboard controller's and the keyboard device's shared operations (spec/42_kbc.md,
spec/43_kbd_device.md): clock enables, enqueues, reads of port 0x60, the poll cycle, the device's reset and scancode
generation. -/

namespace Sys2Proof.Machine

/-! ## Controller (42_kbc.md) -/

/-- `kbc <- k`. -/
def State.setKbc (s : State) (k : Kbc) : State := { s with kbc := k }

/-- `activate_timer()` (R260). -/
def activateTimer (s : State) : State := { s with kbc := { s.kbc with timerPending := true } }

/-- `set_kbd_clock_enable(v)` (R261): a 0-to-1 change with an empty output buffer schedules a re-poll. -/
def setKbdClock (v : Bool) (s : State) : State :=
  let was := s.kbc.kbdClockEnabled
  let s := { s with kbc := { s.kbc with kbdClockEnabled := v } }
  if v && !was && !s.kbc.outb then activateTimer s else s

/-- `set_aux_clock_enable(v)` (R262). -/
def setAuxClock (v : Bool) (s : State) : State :=
  let was := s.kbc.auxClockEnabled
  let s := { s with kbc := { s.kbc with auxClockEnabled := v } }
  if v && !was && !s.kbc.outb then activateTimer s else s

/-- A byte enters the keyboard-side output buffer, with its IRQ request if allowed (R263, R296). -/
def Kbc.putKbd (k : Kbc) (b : Byte) : Kbc :=
  { k with kbdOutputBuffer := b, outb := true, auxb := false, irq1Requested := k.irq1Requested || k.allowIrq1 }

/-- A byte enters the mouse-side output buffer, with its IRQ request if allowed (R263, R296). -/
def Kbc.putAux (k : Kbc) (b : Byte) : Kbc :=
  { k with auxOutputBuffer := b, outb := true, auxb := true, irq12Requested := k.irq12Requested || k.allowIrq12 }

/-- `kbc_enq(b, side)` (R263), `aux` for the mouse side. -/
def kbcEnqueue (b : Byte) (aux : Bool) (s : State) : State :=
  if s.kbc.outb then
    (s.noteIf (Config.kbcQueueNominal ≤ s.kbc.q.length) .kbcQueueOverrun).setKbc { s.kbc with q := s.kbc.q ++ [b] }
  else
    let k := if aux then s.kbc.putAux b else s.kbc.putKbd b
    { s with kbc := { k with inpb := false } }

/-- Read of port 0x60, mouse path (R264). -/
def dataReadAux (s : State) : Result :=
  let v := s.kbc.auxOutputBuffer
  let k := { s.kbc with outb := false, auxb := false, irq12Requested := false }
  let k := match k.q with
    | [] => k
    | b :: rest => Kbc.putAux { k with q := rest } b
  answer (.byte v) (activateTimer (clearIrq 12 { s with kbc := k }))

/-- Read of port 0x60, keyboard path (R265). -/
def dataReadKbd (s : State) : Result :=
  let v := s.kbc.kbdOutputBuffer
  let k := { s.kbc with outb := false, auxb := false, irq1Requested := false, batInProgress := false }
  let k := match k.q with
    | [] => k
    | b :: rest => Kbc.putKbd { k with q := rest } b
  answer (.byte v) (activateTimer (clearIrq 1 { s with kbc := k }))

/-- Read of port 0x60, nothing pending (R266): the stale keyboard-side byte. -/
def dataReadEmpty (s : State) : Result := answer (.byte s.kbc.kbdOutputBuffer) (s.note .kbcReadOfEmptyBuffer)

/-- Read of port 0x64 (R267): the status byte; `tim` is cleared. -/
def statusByteRead (s : State) : Result :=
  answer (.byte (kbcStatus s.kbc)) { s with kbc := { s.kbc with tim := false } }

/-- The prologue of every write to port 0x64 (R268). -/
def commandPrologue (data : Byte) (s : State) : State :=
  { s with kbc := { s.kbc with cD := true, lastComm := data, expectingPort60h := false } }

/-- The next write to port 0x60 is this command's argument (R270, R279 to R282). -/
def expectArgument (s : State) : State := { s with kbc := { s.kbc with expectingPort60h := true } }

/-- 0x20 read config byte (R269): refused while the output buffer is full. -/
def readConfig (s : State) : State :=
  if s.kbc.outb then s.note .kbcOutputBufferFull else kbcEnqueue (configByte s.kbc) false s

/-- 0xAA controller self-test (R274): the first invocation clears queue and output buffer. -/
def selfTest (s : State) : State :=
  let k := if s.kbc.selftestDone then s.kbc else { s.kbc with q := [], outb := false, auxb := false, selftestDone := true }
  kbcEnqueue 0x55 false { s with kbc := { k with sysf := true } }

/-- `A20 <- b` (00_scope.md R10). -/
def setA20 (b : Bool) (s : State) : State := { s with env := { s.env with a20 := b } }

/-- The bookkeeping of an argument write to port 0x60 (R288). -/
def argumentPrologue (s : State) : State := { s with kbc := { s.kbc with cD := false, expectingPort60h := false } }

/-- Config byte, argument of 0x60 (R289). -/
def writeConfig (data : Byte) (s : State) : State :=
  let s := { s with kbc := { s.kbc with
    scancodesTranslate := configTranslate data, sysf := configSysf data,
    allowIrq1 := configAllowIrq1 data, allowIrq12 := configAllowIrq12 data } }
  let s := setAuxClock (!configAuxClockOff data) (setKbdClock (!configKbdClockOff data) s)
  if s.kbc.allowIrq12 && s.kbc.auxb then { s with kbc := { s.kbc with irq12Requested := true } }
  else if s.kbc.allowIrq1 && s.kbc.outb then { s with kbc := { s.kbc with irq1Requested := true } }
  else s

/-- Output-port byte, argument of 0xD1 (R290). -/
def writeOutport (data : Byte) (s : State) : State :=
  let s := setA20 (outportA20 data) s
  if outportNoReset data then s else s.emit .cpuResetRequest

/-- `poll()` after its code has been computed and the two requests cleared (R296): the fetch, if a re-poll is due and the
output buffer is empty; the keyboard before the mouse. -/
def pollFetch (s : State) : State :=
  if !s.kbc.timerPending then s
  else
    let s := { s with kbc := { s.kbc with timerPending := false } }
    if s.kbc.outb then s
    else
      match s.kbd.buf, s.kbc.kbdClockEnabled || s.kbc.batInProgress with
      | b :: rest, true => { s with kbc := s.kbc.putKbd b, kbd := { s.kbd with buf := rest } }
      | _, _ =>
        match s.env.mouse, s.kbc.auxClockEnabled with
        | b :: rest, true => { s with kbc := s.kbc.putAux b, env := { s.env with mouse := rest } }
        | _, _ => s

/-- `poll()` (R296): the state after; its return code is `pollCodeOf` of the state before. -/
def pollCycle (s : State) : State :=
  pollFetch { s with kbc := { s.kbc with irq1Requested := false, irq12Requested := false } }

/-- `update()` (R297): the poll, then the IRQ lines of its code. -/
def updateCycle (s : State) : State :=
  let code := pollCodeOf s.kbc
  let s := pollCycle s
  let s := if code.getLsbD 0 then setIrq 1 s else s
  if code.getLsbD 1 then setIrq 12 s else s

/-! ## Device (43_kbd_device.md) -/

/-- `kbd_enq(b)` (R330): dropped when the buffer is full; a re-poll is scheduled when the output path is idle. -/
def kbdEnqueue (b : Byte) (s : State) : State :=
  if Config.kbdBufferSlots ≤ s.kbd.buf.length then s.note .kbdBufferFull
  else
    let s := { s with kbd := { s.kbd with buf := s.kbd.buf ++ [b] } }
    if !s.kbc.outb && s.kbc.kbdClockEnabled then activateTimer s else s

/-- `reset_internals()` (R331). -/
def resetInternals (s : State) : State :=
  { s with
    kbd := { s.kbd with
      buf := [], expectingTypematic := false, expectingLedWrite := false, expectingScancodeSet := false,
      delay := 1, repeatRate := 0x0B }
    kbc := { s.kbc with currentScancodeSet := 2 } }

/-- A byte for the keyboard device arrives at port 0x60 (42_kbc.md R288, R295): `c_d` is cleared and the keyboard clock
enabled if it was off. -/
def devicePrologue (s : State) : State :=
  let s := { s with kbc := { s.kbc with cD := false } }
  if s.kbc.kbdClockEnabled then s else setKbdClock true s

/-- Typematic byte (R333). -/
def typematicByte (data : Byte) (s : State) : State :=
  kbdEnqueue 0xFA { s with kbd := { s.kbd with
    expectingTypematic := false, delay := typematicDelay data, repeatRate := typematicRate data } }

/-- LED byte (R334): three notifications, num, caps, scroll. -/
def ledByte (data : Byte) (s : State) : State :=
  let s := { s with kbd := { s.kbd with expectingLedWrite := false, ledStatus := data } }
  let s := s.emit (.notify .num (ledBit data .num))
  let s := s.emit (.notify .caps (ledBit data .caps))
  let s := s.emit (.notify .scroll (ledBit data .scroll))
  kbdEnqueue 0xFA s

/-- Scancode-set selector (R335). -/
def scancodeSetByte (data : Byte) (s : State) : State :=
  let s := { s with kbd := { s.kbd with expectingScancodeSet := false } }
  if data = 0 then kbdEnqueue (s.kbc.currentScancodeSet.setWidth 8) (kbdEnqueue 0xFA s)
  else if data ≤ 3 then kbdEnqueue 0xFA { s with kbc := { s.kbc with currentScancodeSet := data.extractLsb' 0 2 } }
  else kbdEnqueue 0xFF (s.note (.kbdBadScancodeSet data))

/-- 0xF2 identify (R339). -/
def identify (s : State) : State :=
  kbdEnqueue (if s.kbc.scancodesTranslate then 0x41 else 0x83) (kbdEnqueue 0xAB (kbdEnqueue 0xFA s))

/-- 0xF5 and 0xF6 (R342, R343): full reset, ACK, scanning off or on. -/
def resetScanning (on : Bool) (s : State) : State :=
  let s := kbdEnqueue 0xFA (resetInternals s)
  { s with kbd := { s.kbd with scanningEnabled := on } }

/-- 0xFF reset with BAT (R345). -/
def resetBat (s : State) : State :=
  let s := kbdEnqueue 0xFA (resetInternals s)
  kbdEnqueue 0xAA { s with kbc := { s.kbc with batInProgress := true } }

/-- `emit(seq)` with translation (R348): 0xF0 is consumed and marks the next byte; `esc` is 0x00 or 0x80. -/
def emitTranslated : List Byte → Byte → State → State
  | [], _, s => s
  | b :: seq, esc, s =>
    if b = 0xF0 then emitTranslated seq 0x80 s
    else emitTranslated seq 0x00 (kbdEnqueue (Config.xlat8042 b ||| esc) s)

/-- `emit(seq)` without translation (R348). -/
def emitRaw : List Byte → State → State
  | [], s => s
  | b :: seq, s => emitRaw seq (kbdEnqueue b s)

/-- `emit(seq)` (R348). -/
def emitScancodes (seq : List Byte) (s : State) : State :=
  if s.kbc.scancodesTranslate then emitTranslated seq 0x00 s else emitRaw seq s

/-- The bytes of a key event (R347): the active set's table, at the key's adjusted index. -/
def scancodesOf (s : State) (key : BitVec 32) (type : KeyType) (side : KeySide) : List Byte :=
  Config.scancodeTable s.kbc.currentScancodeSet (key.toNat + Config.keyIndexAdjust key side) type

/-- `keyEvent(key, event)` (R347): discarded while scanning is disabled. -/
def hostKey (key : BitVec 32) (type : KeyType) (side : KeySide) (s : State) : State :=
  if s.kbd.scanningEnabled then emitScancodes (scancodesOf s key type side) s else s

end Sys2Proof.Machine
end

