-- ==== Sys2Proof/Machine/Kbc.lean ====
section
/-! DEFINITION. The keyboard controller's port operations (spec/42_kbc.md), one meaning for each row. Every command at
port 0x64 begins with the prologue of R268, every argument at port 0x60 with the bookkeeping of R288. -/

namespace Sys2Proof.Machine

/-- `KBC_CMD_READ_CONFIG` (42_kbc.md R269, R268). -/
def execKbcCmdReadConfig (s : State) : Result := finish (readConfig (commandPrologue 0x20 s))

/-- `KBC_CMD_WRITE_CONFIG` (42_kbc.md R270, R268). -/
def execKbcCmdWriteConfig (s : State) : Result := finish (expectArgument (commandPrologue 0x60 s))

/-- `KBC_CMD_AUX_DISABLE` (42_kbc.md R271, R268). -/
def execKbcCmdAuxDisable (s : State) : Result := finish (setAuxClock false (commandPrologue 0xA7 s))

/-- `KBC_CMD_AUX_ENABLE` (42_kbc.md R272, R268). -/
def execKbcCmdAuxEnable (s : State) : Result := finish (setAuxClock true (commandPrologue 0xA8 s))

/-- `KBC_CMD_AUX_TEST` (42_kbc.md R273, R268). -/
def execKbcCmdAuxTest (s : State) : Result := finish (kbcEnqueue 0xFF false (commandPrologue 0xA9 s))

/-- `KBC_CMD_SELF_TEST` (42_kbc.md R274, R268). -/
def execKbcCmdSelfTest (s : State) : Result := finish (selfTest (commandPrologue 0xAA s))

/-- `KBC_CMD_KBD_IF_TEST` (42_kbc.md R275, R268). -/
def execKbcCmdKbdIfTest (s : State) : Result := finish (kbcEnqueue 0x00 false (commandPrologue 0xAB s))

/-- `KBC_CMD_KBD_DISABLE` (42_kbc.md R276, R268). -/
def execKbcCmdKbdDisable (s : State) : Result := finish (setKbdClock false (commandPrologue 0xAD s))

/-- `KBC_CMD_KBD_ENABLE` (42_kbc.md R277, R268). -/
def execKbcCmdKbdEnable (s : State) : Result := finish (setKbdClock true (commandPrologue 0xAE s))

/-- `KBC_CMD_READ_OUTPORT` (42_kbc.md R278, R268). -/
def execKbcCmdReadOutport (s : State) : Result :=
  finish (kbcEnqueue (outportByte s.kbc s.env.a20) false (commandPrologue 0xD0 s))

/-- `KBC_CMD_WRITE_OUTPORT` (42_kbc.md R279, R268). -/
def execKbcCmdWriteOutport (s : State) : Result := finish (expectArgument (commandPrologue 0xD1 s))

/-- `KBC_CMD_WRITE_KBD_OUTBUF` (42_kbc.md R280, R268). -/
def execKbcCmdWriteKbdOutbuf (s : State) : Result := finish (expectArgument (commandPrologue 0xD2 s))

/-- `KBC_CMD_WRITE_AUX_OUTBUF` (42_kbc.md R281, R268). -/
def execKbcCmdWriteAuxOutbuf (s : State) : Result := finish (expectArgument (commandPrologue 0xD3 s))

/-- `KBC_CMD_WRITE_TO_MOUSE` (42_kbc.md R282, R268). -/
def execKbcCmdWriteToMouse (s : State) : Result := finish (expectArgument (commandPrologue 0xD4 s))

/-- `KBC_CMD_A20_DISABLE` (42_kbc.md R283, R268). -/
def execKbcCmdA20Disable (s : State) : Result := finish (setA20 false (commandPrologue 0xDD s))

/-- `KBC_CMD_A20_ENABLE` (42_kbc.md R284, R268). -/
def execKbcCmdA20Enable (s : State) : Result := finish (setA20 true (commandPrologue 0xDF s))

/-- `KBC_CMD_SYSTEM_RESET_UNIMPL` (42_kbc.md R285, R268). -/
def execKbcCmdSystemResetUnimpl (s : State) : Result :=
  finish ((commandPrologue 0xFE s).note .kbcSystemResetNotImplemented)

/-- `KBC_CMD_PULSE_NOP` (42_kbc.md R286, R268). -/
def execKbcCmdPulseNop (data : Byte) (s : State) : Result := finish (commandPrologue data s)

/-- `KBC_CMD_UNSUPPORTED` (42_kbc.md R287, R268). -/
def execKbcCmdUnsupported (data : Byte) (s : State) : Result :=
  finish ((commandPrologue data s).note (.kbcUnsupportedCommand data))

/-- `KBC_STATUS_R` (42_kbc.md R267). -/
def execKbcStatusR (s : State) : Result := statusByteRead s

/-- `KBC_DATA_R_AUX` (42_kbc.md R264). -/
def execKbcDataRAux (s : State) : Result := dataReadAux s

/-- `KBC_DATA_R_KBD` (42_kbc.md R265). -/
def execKbcDataRKbd (s : State) : Result := dataReadKbd s

/-- `KBC_DATA_R_EMPTY` (42_kbc.md R266). -/
def execKbcDataREmpty (s : State) : Result := dataReadEmpty s

/-- `KBC_ARG_CONFIG` (42_kbc.md R289, R288). -/
def execKbcArgConfig (data : Byte) (s : State) : Result := finish (writeConfig data (argumentPrologue s))

/-- `KBC_ARG_OUTPORT` (42_kbc.md R290, R288). -/
def execKbcArgOutport (data : Byte) (s : State) : Result := finish (writeOutport data (argumentPrologue s))

/-- `KBC_ARG_KBD_OUTBUF` (42_kbc.md R291, R288). -/
def execKbcArgKbdOutbuf (data : Byte) (s : State) : Result := finish (kbcEnqueue data false (argumentPrologue s))

/-- `KBC_ARG_AUX_OUTBUF` (42_kbc.md R292, R288). -/
def execKbcArgAuxOutbuf (data : Byte) (s : State) : Result := finish (kbcEnqueue data true (argumentPrologue s))

/-- `KBC_ARG_TO_MOUSE` (42_kbc.md R293, R288). -/
def execKbcArgToMouse (data : Byte) (s : State) : Result := finish ((argumentPrologue s).emit (.mouseControl data))

/-- `KBC_ARG_UNEXPECTED` (42_kbc.md R294, R288). -/
def execKbcArgUnexpected (_data : Byte) (s : State) : Result := raise (.unknownPort 0x60) (argumentPrologue s)

end Sys2Proof.Machine
end

