-- ==== Sys2Proof/Machine/Kbd.lean ====
section
/-! DEFINITION. The keyboard device's bytes (spec/43_kbd_device.md sections 2 and 3), one meaning for each row. Each
arrives through port 0x60 and begins with 42_kbc.md R288 and R295. -/

namespace Sys2Proof.Machine

/-- `KBD_ARG_TYPEMATIC` (43_kbd_device.md R333, R288, R295, R332). -/
def execKbdArgTypematic (data : Byte) (s : State) : Result := finish (typematicByte data (devicePrologue s))

/-- `KBD_ARG_LED` (43_kbd_device.md R334, R288, R295, R332). -/
def execKbdArgLed (data : Byte) (s : State) : Result := finish (ledByte data (devicePrologue s))

/-- `KBD_ARG_SCANCODE_SET` (43_kbd_device.md R335, R288, R295, R332). -/
def execKbdArgScancodeSet (data : Byte) (s : State) : Result := finish (scancodeSetByte data (devicePrologue s))

/-- `KBD_CMD_SET_LEDS` (43_kbd_device.md R336, R288, R295, R332). -/
def execKbdCmdSetLeds (s : State) : Result :=
  let s := devicePrologue s
  finish (kbdEnqueue 0xFA { s with kbd := { s.kbd with expectingLedWrite := true } })

/-- `KBD_CMD_ECHO` (43_kbd_device.md R337, R288, R295, R332). -/
def execKbdCmdEcho (s : State) : Result := finish (kbdEnqueue 0xEE (devicePrologue s))

/-- `KBD_CMD_SELECT_SCANCODE_SET` (43_kbd_device.md R338, R288, R295, R332). -/
def execKbdCmdSelectScancodeSet (s : State) : Result :=
  let s := devicePrologue s
  finish (kbdEnqueue 0xFA { s with kbd := { s.kbd with expectingScancodeSet := true } })

/-- `KBD_CMD_IDENTIFY` (43_kbd_device.md R339, R288, R295, R332). -/
def execKbdCmdIdentify (s : State) : Result := finish (identify (devicePrologue s))

/-- `KBD_CMD_SET_TYPEMATIC` (43_kbd_device.md R340, R288, R295, R332). -/
def execKbdCmdSetTypematic (s : State) : Result :=
  let s := devicePrologue s
  finish (kbdEnqueue 0xFA { s with kbd := { s.kbd with expectingTypematic := true } })

/-- `KBD_CMD_ENABLE_SCANNING` (43_kbd_device.md R341, R288, R295, R332). -/
def execKbdCmdEnableScanning (s : State) : Result :=
  let s := devicePrologue s
  finish (kbdEnqueue 0xFA { s with kbd := { s.kbd with scanningEnabled := true } })

/-- `KBD_CMD_RESET_DISABLE` (43_kbd_device.md R342, R288, R295, R332). -/
def execKbdCmdResetDisable (s : State) : Result := finish (resetScanning false (devicePrologue s))

/-- `KBD_CMD_RESET_ENABLE` (43_kbd_device.md R343, R288, R295, R332). -/
def execKbdCmdResetEnable (s : State) : Result := finish (resetScanning true (devicePrologue s))

/-- `KBD_CMD_RESEND` (43_kbd_device.md R344, R288, R295, R332). -/
def execKbdCmdResend (s : State) : Result := finish ((devicePrologue s).note .kbdResendRequested)

/-- `KBD_CMD_RESET_BAT` (43_kbd_device.md R345, R288, R295, R332). -/
def execKbdCmdResetBat (s : State) : Result := finish (resetBat (devicePrologue s))

/-- `KBD_CMD_UNRECOGNIZED` (43_kbd_device.md R346, R288, R295, R332), logged as 30_encoding.md R114 says. -/
def execKbdCmdUnrecognized (data : Byte) (s : State) : Result :=
  finish (kbdEnqueue 0xFE ((devicePrologue s).note (.kbdUnrecognizedCommand data)))

end Sys2Proof.Machine
end

