-- ==== Sys2Proof/Machine/Pic.lean ====
section
/-! DEFINITION. The PIC pair's port operations (spec/40_pic.md sections 3 to 5), one meaning for each row. -/

namespace Sys2Proof.Machine

/-- `PIC0_ICW1` (40_pic.md R146). -/
def execPic0Icw1 (data : Byte) (s : State) : Result := finish (icw1 .master data s)

/-- `PIC0_OCW3` (40_pic.md R159). -/
def execPic0Ocw3 (data : Byte) (s : State) : Result := finish (ocw3 .master data s)

/-- `PIC0_EOI` (40_pic.md R151). -/
def execPic0Eoi (s : State) : Result := finish (eoi .master s)

/-- `PIC0_EOI_ROTATE` (40_pic.md R152). -/
def execPic0EoiRotate (s : State) : Result := finish (eoiRotate .master s)

/-- `PIC0_SEOI` (40_pic.md R153). -/
def execPic0Seoi (level : Input) (s : State) : Result := finish (specificEoi .master level s)

/-- `PIC0_SEOI_ROTATE` (40_pic.md R154). -/
def execPic0SeoiRotate (level : Input) (s : State) : Result := finish (specificEoiRotate .master level s)

/-- `PIC0_SET_PRIORITY` (40_pic.md R155). -/
def execPic0SetPriority (level : Input) (s : State) : Result := finish (setPriority .master level s)

/-- `PIC0_OCW2_NOP` (40_pic.md R156). -/
def execPic0Ocw2Nop (s : State) : Result := finish (s.note (.picNopCommand .master))

/-- `PIC0_ROT_AEOI_SET` (40_pic.md R157). -/
def execPic0RotAeoiSet (s : State) : Result := finish (setRotateOnAutoEoi .master true s)

/-- `PIC0_ROT_AEOI_CLR` (40_pic.md R157). -/
def execPic0RotAeoiClr (s : State) : Result := finish (setRotateOnAutoEoi .master false s)

/-- `PIC0_OCW2_RESERVED` (40_pic.md R158). -/
def execPic0Ocw2Reserved (data : Byte) (s : State) : Result := finish (s.note (.picReservedOcw2 .master data))

/-- `PIC0_ICW2` (40_pic.md R147). -/
def execPic0Icw2 (data : Byte) (s : State) : Result := finish (icw2 .master data s)

/-- `PIC0_ICW3` (40_pic.md R148). -/
def execPic0Icw3 (_data : Byte) (s : State) : Result := finish (icw3 .master s)

/-- `PIC0_ICW4` (40_pic.md R149). -/
def execPic0Icw4 (data : Byte) (s : State) : Result := finish (icw4 .master data s)

/-- `PIC0_OCW1` (40_pic.md R150). -/
def execPic0Ocw1 (data : Byte) (s : State) : Result := finish (ocw1 .master data s)

/-- `PIC0_READ_CMD` (40_pic.md R160). -/
def execPic0ReadCmd (s : State) : Result := answer (.byte (s.pic .master).commandRead) s

/-- `PIC0_READ_MASK` (40_pic.md R161). -/
def execPic0ReadMask (s : State) : Result := answer (.byte (s.pic .master).imr) s

/-- `PIC0_POLL_CMD` (40_pic.md R162). -/
def execPic0PollCmd (s : State) : Result :=
  let t := poll .master s
  answer (.byte (t.pic .master).pollRead) t

/-- `PIC0_POLL_MASK` (40_pic.md R162). -/
def execPic0PollMask (s : State) : Result :=
  let t := poll .master s
  answer (.byte (t.pic .master).pollRead) t

/-- `PIC1_ICW1` (40_pic.md R146). -/
def execPic1Icw1 (data : Byte) (s : State) : Result := finish (icw1 .slave data s)

/-- `PIC1_OCW3` (40_pic.md R159). -/
def execPic1Ocw3 (data : Byte) (s : State) : Result := finish (ocw3 .slave data s)

/-- `PIC1_EOI` (40_pic.md R151). -/
def execPic1Eoi (s : State) : Result := finish (eoi .slave s)

/-- `PIC1_EOI_ROTATE` (40_pic.md R152). -/
def execPic1EoiRotate (s : State) : Result := finish (eoiRotate .slave s)

/-- `PIC1_SEOI` (40_pic.md R153). -/
def execPic1Seoi (level : Input) (s : State) : Result := finish (specificEoi .slave level s)

/-- `PIC1_SEOI_ROTATE` (40_pic.md R154). -/
def execPic1SeoiRotate (level : Input) (s : State) : Result := finish (specificEoiRotate .slave level s)

/-- `PIC1_SET_PRIORITY` (40_pic.md R155). -/
def execPic1SetPriority (level : Input) (s : State) : Result := finish (setPriority .slave level s)

/-- `PIC1_OCW2_NOP` (40_pic.md R156). -/
def execPic1Ocw2Nop (s : State) : Result := finish (s.note (.picNopCommand .slave))

/-- `PIC1_ROT_AEOI_SET` (40_pic.md R157). -/
def execPic1RotAeoiSet (s : State) : Result := finish (setRotateOnAutoEoi .slave true s)

/-- `PIC1_ROT_AEOI_CLR` (40_pic.md R157). -/
def execPic1RotAeoiClr (s : State) : Result := finish (setRotateOnAutoEoi .slave false s)

/-- `PIC1_OCW2_RESERVED` (40_pic.md R158). -/
def execPic1Ocw2Reserved (data : Byte) (s : State) : Result := finish (s.note (.picReservedOcw2 .slave data))

/-- `PIC1_ICW2` (40_pic.md R147). -/
def execPic1Icw2 (data : Byte) (s : State) : Result := finish (icw2 .slave data s)

/-- `PIC1_ICW3` (40_pic.md R148). -/
def execPic1Icw3 (_data : Byte) (s : State) : Result := finish (icw3 .slave s)

/-- `PIC1_ICW4` (40_pic.md R149). -/
def execPic1Icw4 (data : Byte) (s : State) : Result := finish (icw4 .slave data s)

/-- `PIC1_OCW1` (40_pic.md R150). -/
def execPic1Ocw1 (data : Byte) (s : State) : Result := finish (ocw1 .slave data s)

/-- `PIC1_READ_CMD` (40_pic.md R160). -/
def execPic1ReadCmd (s : State) : Result := answer (.byte (s.pic .slave).commandRead) s

/-- `PIC1_READ_MASK` (40_pic.md R161). -/
def execPic1ReadMask (s : State) : Result := answer (.byte (s.pic .slave).imr) s

/-- `PIC1_POLL_CMD` (40_pic.md R162). -/
def execPic1PollCmd (s : State) : Result :=
  let t := poll .slave s
  answer (.byte (t.pic .slave).pollRead) t

/-- `PIC1_POLL_MASK` (40_pic.md R162). -/
def execPic1PollMask (s : State) : Result :=
  let t := poll .slave s
  answer (.byte (t.pic .slave).pollRead) t

end Sys2Proof.Machine
end

