-- ==== Sys2Proof/Machine/Signals.lean ====
section
/-! DEFINITION. The signal-level operations (spec/30_encoding.md R101): interrupts, DMA requests and grants, the
scheduler's tick, host key events, reset. -/

namespace Sys2Proof.Machine

/-- `reset()` (70_reset_and_hazards.md R421): every element of the block at its reset value, no handler bound but the
cascade channel's, the ports registered that no other component owns. The collaborators, the record and the events to come
are not touched (10_state.md R54). The bus's report of a rejected `RegisterPort` leaves no trace but the port missing from
`granted`: DESIGN CHOICE (notes/assumptions/27.md). -/
def resetBlock (s : State) : State :=
  { s with
    master := State.reset.master, slave := State.reset.slave
    dma0 := State.reset.dma0, dma1 := State.reset.dma1
    hlda := State.reset.hlda, tc := State.reset.tc, ext := State.reset.ext
    kbc := State.reset.kbc, kbd := State.reset.kbd
    intr := State.reset.intr, hrq := State.reset.hrq
    env := { s.env with granted := ownedPorts.filter fun p => !s.env.foreign.contains p } }

/-- `setIRQ` (40_pic.md R143). -/
def execSetIrq (n : BitVec 4) (s : State) : Result := finish (setIrq n s)

/-- `clearIRQ` (40_pic.md R144). -/
def execClearIrq (n : BitVec 4) (s : State) : Result := finish (clearIrq n s)

/-- `requestIRQNumber` (40_pic.md R145). -/
def execRequestIrqNumber (identity : Identity) (s : State) : Result :=
  match registeredIrq identity with
  | some n => answer (.irqNumber n) s
  | none => answer .irqUnsupported (s.note .irqAllocation)

/-- `interruptAcknowledge` (40_pic.md R163). -/
def execInterruptAcknowledge (s : State) : Result := answer (.vector (acknowledge s).1) (acknowledge s).2

/-- `registerChannel` (41_dma.md R200). -/
def execRegisterChannel (g : BitVec 32) (handler : Handler) (s : State) : Result :=
  answer (.registered (registerHandler g handler s).1) (registerHandler g handler s).2

/-- `setDMARequest` (41_dma.md R204). -/
def execSetDmaRequest (g : BitVec 3) (b : Bool) (s : State) : Result :=
  finish (setRequest (globalController g) (globalChan g) b s)

/-- `acknowledgeBusHold` (41_dma.md R222). -/
def execAcknowledgeBusHold (s : State) : Result := finish (busHold s)

/-- `update` (42_kbc.md R297). -/
def execUpdate (s : State) : Result := answer (.pollCode (pollCodeOf s.kbc)) (updateCycle s)

/-- `keyEvent` (43_kbd_device.md R347). -/
def execKeyEvent (key : BitVec 32) (type : KeyType) (side : KeySide) (s : State) : Result :=
  finish (hostKey key type side s)

/-- `reset` (70_reset_and_hazards.md R421). -/
def execReset (s : State) : Result := finish (resetBlock s)

end Sys2Proof.Machine
end

