-- ==== Sys2Proof/Machine/Wide.lean ====
section
/-! DEFINITION. Word and doubleword accesses (spec/20_memory.md R73; 40_pic.md R168, 41_dma.md R228, 42_kbc.md R298): a
fixed pattern, a log entry, no other effect. -/

namespace Sys2Proof.Machine

/-- `INW` (20_memory.md R73). -/
def execInw (port : PortNo) (s : State) : Result := answer (.word 0xFFFF) (s.note (.wideAccess port))

/-- `OUTW` (20_memory.md R73). -/
def execOutw (port : PortNo) (_v : BitVec 16) (s : State) : Result := finish (s.note (.wideAccess port))

/-- `IND` (20_memory.md R73). -/
def execInd (port : PortNo) (s : State) : Result := answer (.dword 0xFFFFFFFF) (s.note (.wideAccess port))

/-- `OUTD` (20_memory.md R73). -/
def execOutd (port : PortNo) (_v : BitVec 32) (s : State) : Result := finish (s.note (.wideAccess port))

end Sys2Proof.Machine
end

