-- ==== Sys2Proof/Machine/Dispatch.lean ====
section
/-! DEFINITION. One arm for each operation: its meaning. -/

namespace Sys2Proof.Machine

def exec (i : Instr) (s : State) : Host.Outcome State Fault Refusal :=
  match i with
  | .pic0Icw1 data => Sys2Proof.Machine.execPic0Icw1 data s
  | .pic0Ocw3 data => Sys2Proof.Machine.execPic0Ocw3 data s
  | .pic0Eoi => Sys2Proof.Machine.execPic0Eoi s
  | .pic0EoiRotate => Sys2Proof.Machine.execPic0EoiRotate s
  | .pic0Seoi level => Sys2Proof.Machine.execPic0Seoi level s
  | .pic0SeoiRotate level => Sys2Proof.Machine.execPic0SeoiRotate level s
  | .pic0SetPriority level => Sys2Proof.Machine.execPic0SetPriority level s
  | .pic0Ocw2Nop => Sys2Proof.Machine.execPic0Ocw2Nop s
  | .pic0RotAeoiSet => Sys2Proof.Machine.execPic0RotAeoiSet s
  | .pic0RotAeoiClr => Sys2Proof.Machine.execPic0RotAeoiClr s
  | .pic0Ocw2Reserved data => Sys2Proof.Machine.execPic0Ocw2Reserved data s
  | .pic0Icw2 data => Sys2Proof.Machine.execPic0Icw2 data s
  | .pic0Icw3 data => Sys2Proof.Machine.execPic0Icw3 data s
  | .pic0Icw4 data => Sys2Proof.Machine.execPic0Icw4 data s
  | .pic0Ocw1 data => Sys2Proof.Machine.execPic0Ocw1 data s
  | .pic0ReadCmd => Sys2Proof.Machine.execPic0ReadCmd s
  | .pic0ReadMask => Sys2Proof.Machine.execPic0ReadMask s
  | .pic0PollCmd => Sys2Proof.Machine.execPic0PollCmd s
  | .pic0PollMask => Sys2Proof.Machine.execPic0PollMask s
  | .pic1Icw1 data => Sys2Proof.Machine.execPic1Icw1 data s
  | .pic1Ocw3 data => Sys2Proof.Machine.execPic1Ocw3 data s
  | .pic1Eoi => Sys2Proof.Machine.execPic1Eoi s
  | .pic1EoiRotate => Sys2Proof.Machine.execPic1EoiRotate s
  | .pic1Seoi level => Sys2Proof.Machine.execPic1Seoi level s
  | .pic1SeoiRotate level => Sys2Proof.Machine.execPic1SeoiRotate level s
  | .pic1SetPriority level => Sys2Proof.Machine.execPic1SetPriority level s
  | .pic1Ocw2Nop => Sys2Proof.Machine.execPic1Ocw2Nop s
  | .pic1RotAeoiSet => Sys2Proof.Machine.execPic1RotAeoiSet s
  | .pic1RotAeoiClr => Sys2Proof.Machine.execPic1RotAeoiClr s
  | .pic1Ocw2Reserved data => Sys2Proof.Machine.execPic1Ocw2Reserved data s
  | .pic1Icw2 data => Sys2Proof.Machine.execPic1Icw2 data s
  | .pic1Icw3 data => Sys2Proof.Machine.execPic1Icw3 data s
  | .pic1Icw4 data => Sys2Proof.Machine.execPic1Icw4 data s
  | .pic1Ocw1 data => Sys2Proof.Machine.execPic1Ocw1 data s
  | .pic1ReadCmd => Sys2Proof.Machine.execPic1ReadCmd s
  | .pic1ReadMask => Sys2Proof.Machine.execPic1ReadMask s
  | .pic1PollCmd => Sys2Proof.Machine.execPic1PollCmd s
  | .pic1PollMask => Sys2Proof.Machine.execPic1PollMask s
  | .dma0Addr0W data => Sys2Proof.Machine.execDma0Addr0W data s
  | .dma0Addr0R => Sys2Proof.Machine.execDma0Addr0R s
  | .dma0Count0W data => Sys2Proof.Machine.execDma0Count0W data s
  | .dma0Count0R => Sys2Proof.Machine.execDma0Count0R s
  | .dma0Addr1W data => Sys2Proof.Machine.execDma0Addr1W data s
  | .dma0Addr1R => Sys2Proof.Machine.execDma0Addr1R s
  | .dma0Count1W data => Sys2Proof.Machine.execDma0Count1W data s
  | .dma0Count1R => Sys2Proof.Machine.execDma0Count1R s
  | .dma0Addr2W data => Sys2Proof.Machine.execDma0Addr2W data s
  | .dma0Addr2R => Sys2Proof.Machine.execDma0Addr2R s
  | .dma0Count2W data => Sys2Proof.Machine.execDma0Count2W data s
  | .dma0Count2R => Sys2Proof.Machine.execDma0Count2R s
  | .dma0Addr3W data => Sys2Proof.Machine.execDma0Addr3W data s
  | .dma0Addr3R => Sys2Proof.Machine.execDma0Addr3R s
  | .dma0Count3W data => Sys2Proof.Machine.execDma0Count3W data s
  | .dma0Count3R => Sys2Proof.Machine.execDma0Count3R s
  | .dma0CommandW data => Sys2Proof.Machine.execDma0CommandW data s
  | .dma0StatusR => Sys2Proof.Machine.execDma0StatusR s
  | .dma0RequestW data => Sys2Proof.Machine.execDma0RequestW data s
  | .dma0SingleMaskW data => Sys2Proof.Machine.execDma0SingleMaskW data s
  | .dma0ModeW data => Sys2Proof.Machine.execDma0ModeW data s
  | .dma0ClearFlipflop data => Sys2Proof.Machine.execDma0ClearFlipflop data s
  | .dma0MasterClear data => Sys2Proof.Machine.execDma0MasterClear data s
  | .dma0ClearMask data => Sys2Proof.Machine.execDma0ClearMask data s
  | .dma0FullMaskW data => Sys2Proof.Machine.execDma0FullMaskW data s
  | .dma0WriteOnlyR9 => Sys2Proof.Machine.execDma0WriteOnlyR9 s
  | .dma0WriteOnlyRA => Sys2Proof.Machine.execDma0WriteOnlyRA s
  | .dma0WriteOnlyRB => Sys2Proof.Machine.execDma0WriteOnlyRB s
  | .dma0WriteOnlyRC => Sys2Proof.Machine.execDma0WriteOnlyRC s
  | .dma0WriteOnlyRD => Sys2Proof.Machine.execDma0WriteOnlyRD s
  | .dma0WriteOnlyRE => Sys2Proof.Machine.execDma0WriteOnlyRE s
  | .dma0WriteOnlyRF => Sys2Proof.Machine.execDma0WriteOnlyRF s
  | .dma1Addr0W data => Sys2Proof.Machine.execDma1Addr0W data s
  | .dma1Addr0R => Sys2Proof.Machine.execDma1Addr0R s
  | .dma1Count0W data => Sys2Proof.Machine.execDma1Count0W data s
  | .dma1Count0R => Sys2Proof.Machine.execDma1Count0R s
  | .dma1Addr1W data => Sys2Proof.Machine.execDma1Addr1W data s
  | .dma1Addr1R => Sys2Proof.Machine.execDma1Addr1R s
  | .dma1Count1W data => Sys2Proof.Machine.execDma1Count1W data s
  | .dma1Count1R => Sys2Proof.Machine.execDma1Count1R s
  | .dma1Addr2W data => Sys2Proof.Machine.execDma1Addr2W data s
  | .dma1Addr2R => Sys2Proof.Machine.execDma1Addr2R s
  | .dma1Count2W data => Sys2Proof.Machine.execDma1Count2W data s
  | .dma1Count2R => Sys2Proof.Machine.execDma1Count2R s
  | .dma1Addr3W data => Sys2Proof.Machine.execDma1Addr3W data s
  | .dma1Addr3R => Sys2Proof.Machine.execDma1Addr3R s
  | .dma1Count3W data => Sys2Proof.Machine.execDma1Count3W data s
  | .dma1Count3R => Sys2Proof.Machine.execDma1Count3R s
  | .dma1CommandW data => Sys2Proof.Machine.execDma1CommandW data s
  | .dma1StatusR => Sys2Proof.Machine.execDma1StatusR s
  | .dma1RequestW data => Sys2Proof.Machine.execDma1RequestW data s
  | .dma1SingleMaskW data => Sys2Proof.Machine.execDma1SingleMaskW data s
  | .dma1ModeW data => Sys2Proof.Machine.execDma1ModeW data s
  | .dma1ClearFlipflop data => Sys2Proof.Machine.execDma1ClearFlipflop data s
  | .dma1MasterClear data => Sys2Proof.Machine.execDma1MasterClear data s
  | .dma1ClearMask data => Sys2Proof.Machine.execDma1ClearMask data s
  | .dma1FullMaskW data => Sys2Proof.Machine.execDma1FullMaskW data s
  | .dma1WriteOnlyR9 => Sys2Proof.Machine.execDma1WriteOnlyR9 s
  | .dma1WriteOnlyRA => Sys2Proof.Machine.execDma1WriteOnlyRA s
  | .dma1WriteOnlyRB => Sys2Proof.Machine.execDma1WriteOnlyRB s
  | .dma1WriteOnlyRC => Sys2Proof.Machine.execDma1WriteOnlyRC s
  | .dma1WriteOnlyRD => Sys2Proof.Machine.execDma1WriteOnlyRD s
  | .dma1WriteOnlyRE => Sys2Proof.Machine.execDma1WriteOnlyRE s
  | .dma1WriteOnlyRF => Sys2Proof.Machine.execDma1WriteOnlyRF s
  | .dmaPageG0W data => Sys2Proof.Machine.execDmaPageG0W data s
  | .dmaPageG0R => Sys2Proof.Machine.execDmaPageG0R s
  | .dmaPageG1W data => Sys2Proof.Machine.execDmaPageG1W data s
  | .dmaPageG1R => Sys2Proof.Machine.execDmaPageG1R s
  | .dmaPageG2W data => Sys2Proof.Machine.execDmaPageG2W data s
  | .dmaPageG2R => Sys2Proof.Machine.execDmaPageG2R s
  | .dmaPageG3W data => Sys2Proof.Machine.execDmaPageG3W data s
  | .dmaPageG3R => Sys2Proof.Machine.execDmaPageG3R s
  | .dmaPageG4W data => Sys2Proof.Machine.execDmaPageG4W data s
  | .dmaPageG4R => Sys2Proof.Machine.execDmaPageG4R s
  | .dmaPageG5W data => Sys2Proof.Machine.execDmaPageG5W data s
  | .dmaPageG5R => Sys2Proof.Machine.execDmaPageG5R s
  | .dmaPageG6W data => Sys2Proof.Machine.execDmaPageG6W data s
  | .dmaPageG6R => Sys2Proof.Machine.execDmaPageG6R s
  | .dmaPageG7W data => Sys2Proof.Machine.execDmaPageG7W data s
  | .dmaPageG7R => Sys2Proof.Machine.execDmaPageG7R s
  | .dmaExtpage80W data => Sys2Proof.Machine.execDmaExtpage80W data s
  | .dmaExtpage80R => Sys2Proof.Machine.execDmaExtpage80R s
  | .dmaExtpage84W data => Sys2Proof.Machine.execDmaExtpage84W data s
  | .dmaExtpage84R => Sys2Proof.Machine.execDmaExtpage84R s
  | .dmaExtpage85W data => Sys2Proof.Machine.execDmaExtpage85W data s
  | .dmaExtpage85R => Sys2Proof.Machine.execDmaExtpage85R s
  | .dmaExtpage86W data => Sys2Proof.Machine.execDmaExtpage86W data s
  | .dmaExtpage86R => Sys2Proof.Machine.execDmaExtpage86R s
  | .dmaExtpage88W data => Sys2Proof.Machine.execDmaExtpage88W data s
  | .dmaExtpage88R => Sys2Proof.Machine.execDmaExtpage88R s
  | .dmaExtpage8CW data => Sys2Proof.Machine.execDmaExtpage8CW data s
  | .dmaExtpage8CR => Sys2Proof.Machine.execDmaExtpage8CR s
  | .dmaExtpage8DW data => Sys2Proof.Machine.execDmaExtpage8DW data s
  | .dmaExtpage8DR => Sys2Proof.Machine.execDmaExtpage8DR s
  | .dmaExtpage8EW data => Sys2Proof.Machine.execDmaExtpage8EW data s
  | .dmaExtpage8ER => Sys2Proof.Machine.execDmaExtpage8ER s
  | .kbcCmdReadConfig => Sys2Proof.Machine.execKbcCmdReadConfig s
  | .kbcCmdWriteConfig => Sys2Proof.Machine.execKbcCmdWriteConfig s
  | .kbcCmdAuxDisable => Sys2Proof.Machine.execKbcCmdAuxDisable s
  | .kbcCmdAuxEnable => Sys2Proof.Machine.execKbcCmdAuxEnable s
  | .kbcCmdAuxTest => Sys2Proof.Machine.execKbcCmdAuxTest s
  | .kbcCmdSelfTest => Sys2Proof.Machine.execKbcCmdSelfTest s
  | .kbcCmdKbdIfTest => Sys2Proof.Machine.execKbcCmdKbdIfTest s
  | .kbcCmdKbdDisable => Sys2Proof.Machine.execKbcCmdKbdDisable s
  | .kbcCmdKbdEnable => Sys2Proof.Machine.execKbcCmdKbdEnable s
  | .kbcCmdReadOutport => Sys2Proof.Machine.execKbcCmdReadOutport s
  | .kbcCmdWriteOutport => Sys2Proof.Machine.execKbcCmdWriteOutport s
  | .kbcCmdWriteKbdOutbuf => Sys2Proof.Machine.execKbcCmdWriteKbdOutbuf s
  | .kbcCmdWriteAuxOutbuf => Sys2Proof.Machine.execKbcCmdWriteAuxOutbuf s
  | .kbcCmdWriteToMouse => Sys2Proof.Machine.execKbcCmdWriteToMouse s
  | .kbcCmdA20Disable => Sys2Proof.Machine.execKbcCmdA20Disable s
  | .kbcCmdA20Enable => Sys2Proof.Machine.execKbcCmdA20Enable s
  | .kbcCmdSystemResetUnimpl => Sys2Proof.Machine.execKbcCmdSystemResetUnimpl s
  | .kbcCmdPulseNop data => Sys2Proof.Machine.execKbcCmdPulseNop data s
  | .kbcCmdUnsupported data => Sys2Proof.Machine.execKbcCmdUnsupported data s
  | .kbcStatusR => Sys2Proof.Machine.execKbcStatusR s
  | .kbcDataRAux => Sys2Proof.Machine.execKbcDataRAux s
  | .kbcDataRKbd => Sys2Proof.Machine.execKbcDataRKbd s
  | .kbcDataREmpty => Sys2Proof.Machine.execKbcDataREmpty s
  | .kbcArgConfig data => Sys2Proof.Machine.execKbcArgConfig data s
  | .kbcArgOutport data => Sys2Proof.Machine.execKbcArgOutport data s
  | .kbcArgKbdOutbuf data => Sys2Proof.Machine.execKbcArgKbdOutbuf data s
  | .kbcArgAuxOutbuf data => Sys2Proof.Machine.execKbcArgAuxOutbuf data s
  | .kbcArgToMouse data => Sys2Proof.Machine.execKbcArgToMouse data s
  | .kbcArgUnexpected data => Sys2Proof.Machine.execKbcArgUnexpected data s
  | .kbdArgTypematic data => Sys2Proof.Machine.execKbdArgTypematic data s
  | .kbdArgLed data => Sys2Proof.Machine.execKbdArgLed data s
  | .kbdArgScancodeSet data => Sys2Proof.Machine.execKbdArgScancodeSet data s
  | .kbdCmdSetLeds => Sys2Proof.Machine.execKbdCmdSetLeds s
  | .kbdCmdEcho => Sys2Proof.Machine.execKbdCmdEcho s
  | .kbdCmdSelectScancodeSet => Sys2Proof.Machine.execKbdCmdSelectScancodeSet s
  | .kbdCmdIdentify => Sys2Proof.Machine.execKbdCmdIdentify s
  | .kbdCmdSetTypematic => Sys2Proof.Machine.execKbdCmdSetTypematic s
  | .kbdCmdEnableScanning => Sys2Proof.Machine.execKbdCmdEnableScanning s
  | .kbdCmdResetDisable => Sys2Proof.Machine.execKbdCmdResetDisable s
  | .kbdCmdResetEnable => Sys2Proof.Machine.execKbdCmdResetEnable s
  | .kbdCmdResend => Sys2Proof.Machine.execKbdCmdResend s
  | .kbdCmdResetBat => Sys2Proof.Machine.execKbdCmdResetBat s
  | .kbdCmdUnrecognized data => Sys2Proof.Machine.execKbdCmdUnrecognized data s
  | .inw port => Sys2Proof.Machine.execInw port s
  | .outw port v => Sys2Proof.Machine.execOutw port v s
  | .ind port => Sys2Proof.Machine.execInd port s
  | .outd port v => Sys2Proof.Machine.execOutd port v s
  | .setIrq n => Sys2Proof.Machine.execSetIrq n s
  | .clearIrq n => Sys2Proof.Machine.execClearIrq n s
  | .requestIrqNumber identity => Sys2Proof.Machine.execRequestIrqNumber identity s
  | .interruptAcknowledge => Sys2Proof.Machine.execInterruptAcknowledge s
  | .registerChannel g handler => Sys2Proof.Machine.execRegisterChannel g handler s
  | .setDmaRequest g b => Sys2Proof.Machine.execSetDmaRequest g b s
  | .acknowledgeBusHold => Sys2Proof.Machine.execAcknowledgeBusHold s
  | .update => Sys2Proof.Machine.execUpdate s
  | .keyEvent key type side => Sys2Proof.Machine.execKeyEvent key type side s
  | .reset => Sys2Proof.Machine.execReset s

end Sys2Proof.Machine
end

