-- ==== Sys2Proof/Machine/Fetch.lean ====
section
/-! DEFINITION. From the inbox to an operation: the decoding context of a state (spec/30_encoding.md R112), the bus's
routing of ports (spec/20_memory.md R70), and the collaborators' own moves (notes/assumptions/1.md). -/

namespace Sys2Proof.Machine

/-- The ICW that a controller's mask port takes next, if a sequence is open. -/
def Pic.icwExpected (p : Pic) : Option IcwWord := if p.inInit then some p.byteExpected else none

/-- The state bits of R112. -/
def State.decodeCtx (s : State) : DecodeCtx where
  masterIcw := s.master.icwExpected
  slaveIcw := s.slave.icwExpected
  masterPolled := s.master.polled
  slavePolled := s.slave.polled
  auxb := s.kbc.auxb
  outb := s.kbc.outb
  expecting := s.kbc.expectingPort60h
  lastComm := s.kbc.lastComm
  typematic := s.kbd.expectingTypematic
  led := s.kbd.expectingLedWrite
  scancodeSet := s.kbd.expectingScancodeSet

/-- The port an operation accesses; a signal accesses none. -/
def packetPort (p : Packet) : Option PortNo := if (unpack p).cls = 7 then none else some (unpack p).port

/-- Whether the bus routes the access to the block (R70). -/
def State.routes (s : State) (p : Packet) : Bool :=
  match packetPort p with
  | none => true
  | some port => s.env.granted.contains port

/-- The operation a packet stands for in this state, or why the block does not perform it. -/
def fetchOperation (s : State) (p : Packet) : Except Refusal Instr :=
  match decode s.decodeCtx p with
  | .error e => .error (.undecodable e)
  | .ok i => if s.routes p then .ok i else .error (.notRouted ((packetPort p).getD 0))

/-- The agent's operation is performed (R12). -/
def performOperation (p : Packet) (s : State) : Result :=
  match fetchOperation s p with
  | .error r => .refused r
  | .ok i => exec i s

/-- A second registration of a port is rejected; a free port goes to the component that claims it (R70). That the rejection
is reported to that component leaves no trace here: DESIGN CHOICE (notes/assumptions/27.md). -/
def claimPort (port : PortNo) (e : Env) : Env :=
  if e.granted.contains port || e.foreign.contains port then e else { e with foreign := port :: e.foreign }

/-- A collaborator's own move: it changes that collaborator alone (R88). -/
def collaboratorMove (e : Event) (env : Env) : Env :=
  match e with
  | .op _ => env
  | .mouseByte b => { env with mouse := env.mouse ++ [b] }
  | .deviceUnit d j v => env.setSupply d j (env.supply d j ++ [v])
  | .memoryByte a b => { env with mem := env.mem.write a.toNat b }
  | .a20Gate on => { env with a20 := on }
  | .portClaim port => claimPort port env

/-- What happens at an event. -/
def handleEvent (e : Event) (s : State) : Result :=
  match e with
  | .op p => performOperation p s
  | .mouseByte _ | .deviceUnit _ _ _ | .memoryByte _ _ | .a20Gate _ | .portClaim _ =>
    .next { s with env := collaboratorMove e s.env }

/-- An operation put before all other events. -/
def State.loadOperation (s : State) (p : Packet) : State := { s with inbox := .op p :: s.inbox }

end Sys2Proof.Machine
end

