-- ==== Sys2Proof/Machine/Step.lean ====
section
/-! DEFINITION. One step: the oldest event of the inbox happens. The block is passive (spec/00_scope.md R12), so with no
event to come a step changes nothing. -/

namespace Sys2Proof.Machine

/-- One step of the machine. -/
def step (s : State) : Host.Outcome State Fault Refusal :=
  match s.inbox with
  | [] => .next s
  | e :: rest => handleEvent e { s with inbox := rest }

/-- The state with this operation as the very next event (notes/assumptions/2.md). -/
def State.withFetchWord (s : State) (nbits w : Nat) : State := s.loadOperation (tablePacket nbits w)

end Sys2Proof.Machine
end

