-- ==== Sys2Proof/Safety.lean ====
section
/-! DEFINITION. The terms in which claims about the machine are stated: the invariant of every state a run can reach, the
priority order of a PIC controller, the channel a bus grant serves, and what a list of bytes leaves in the keyboard device's
buffer. Each is written from its rule, beside the operations and without them. -/

namespace Sys2Proof.Machine

/-! ## The machine's invariant -/

/-- At most one channel of a controller is acknowledged (10_state.md R34). -/
def Dma.OneDack (x : Dma) : Prop := ∀ j k, x.dack.get j = true → x.dack.get k = true → j = k

/-- What the rules of spec/ promise of every state between two operations. -/
structure State.Inv (s : State) : Prop where
  /-- 10_state.md R23: bits 2:0 of a vector base are 0. -/
  offsets : ∀ c, (s.pic c).offset &&& 0x07 = 0
  /-- 40_pic.md R141, R146, R163: INTR is driven by the master's latched request alone. -/
  interruptLine : s.intr = s.master.intRequestPin
  /-- 10_state.md R32, 41_dma.md R209: the disabled flag is command bit 2. -/
  disabledFlag : ∀ d, (s.dma d).disabled = (s.dma d).command.getLsbD 2
  /-- 41_dma.md R204: a pending request is a request line that is held. -/
  requestHeld : ∀ d j, (s.dma d).requested j = true → (s.dma d).drq.get j = true
  /-- 10_state.md R34: global channel 4 is in use and bound to the handler that does nothing. -/
  cascadeReserved : (s.chan .dma1 .c0).inUse = true ∧ s.dma1.handler.get .c0 = some noopHandler
  /-- 10_state.md R34: at most one channel of each controller is acknowledged. -/
  oneAcknowledge : ∀ d, (s.dma d).OneDack
  /-- 10_state.md R35: the terminal-count output is 1 only inside a transfer. -/
  terminalCountLow : s.tc = false
  /-- 10_state.md R40. -/
  auxPending : s.kbc.auxb = true → s.kbc.outb = true
  /-- 10_state.md R39: the scancode set is 1, 2 or 3. -/
  scancodeSet : s.kbc.currentScancodeSet ≠ 0
  /-- 42_kbc.md R294: an argument is awaited by the five commands that take one, and by no other. -/
  argumentAwaited : s.kbc.expectingPort60h = true → s.kbc.lastComm ∈ argumentCommands
  /-- 10_state.md R41. -/
  deviceBuffer : s.kbd.buf.length ≤ 16
  /-- 10_state.md R42: at most one argument sub-state is set. -/
  oneSubState :
    ¬(s.kbd.expectingTypematic = true ∧ s.kbd.expectingLedWrite = true) ∧
    ¬(s.kbd.expectingTypematic = true ∧ s.kbd.expectingScancodeSet = true) ∧
    ¬(s.kbd.expectingLedWrite = true ∧ s.kbd.expectingScancodeSet = true)
  /-- 20_memory.md R70: a port has at most one owner. -/
  portOwners : ∀ p, p ∈ s.env.granted → p ∉ s.env.foreign
  /-- The canonical form of memory. -/
  memory : s.env.mem.wf = true

/-! ## Sequences of operations -/

/-- Operations performed one after the other (20_memory.md R82), up to the first that does not answer a next state. -/
def performAll : List Instr → State → Result
  | [], s => .next s
  | i :: rest, s =>
    match exec i s with
    | .next t => performAll rest t
    | .fault f => .fault f
    | .refused r => .refused r

/-! ## Priority in a PIC controller (10_state.md R25, 40_pic.md R140) -/

/-- The place of an input in the priority order, 0 being the highest (R25). -/
def Pic.position (p : Pic) (i : Input) : Nat := (i - (p.lowestPriority + 1)).toNat

/-- An input that may be dispatched: requested, unmasked and, outside special mask, ahead of every input in service
(R25, R140). -/
def Pic.Dispatchable (p : Pic) (i : Input) : Prop :=
  bitAt p.irr i = true ∧ bitAt p.imr i = false ∧
    (p.specialMask = true ∨ ∀ k, bitAt p.isr k = true → p.position i < p.position k)

/-! ## The channel that a grant serves (41_dma.md R203, R222) -/

/-- A request is pending on an unmasked channel of an enabled controller (R202). -/
def Dma.Wants (x : Dma) : Prop :=
  x.disabled = false ∧ ∃ j, x.status.getLsbD (4 + chanIndex j) = true ∧ x.mask.get j = false

/-- The lowest-numbered channel with a pending unmasked request (R203). -/
def Dma.Selects (x : Dma) (j : Chan) : Prop :=
  (x.status.getLsbD (4 + chanIndex j) = true ∧ x.mask.get j = false) ∧
    ∀ k, chanIndex k < chanIndex j → ¬(x.status.getLsbD (4 + chanIndex k) = true ∧ x.mask.get k = false)

/-- A bus grant serves channel `j` of controller `d` (R222): one of controller 1's own, or, where that controller selects
its cascade channel, controller 0's selection. -/
def State.Grants (s : State) (d : DmaId) (j : Chan) : Prop :=
  match d with
  | .dma1 => j ≠ .c0 ∧ s.dma1.Selects j
  | .dma0 => s.dma1.Selects .c0 ∧ s.dma0.Selects j

/-- The state at which the data part of that transfer begins (R222, R223): the bus is granted, the channel is acknowledged
(and the cascade channel with it), its registers have advanced, and at terminal count the status bit, the TC output and,
without auto-init, the mask are set. That every other acknowledge of that controller is withdrawn is the model's reading of
10_state.md R34 and 90_conflicts.md C4 (notes/assumptions/16.md). -/
def State.advanced (s : State) (d : DmaId) (j : Chan) : State :=
  let x := s.dma d
  let ch := x.chan.get j
  let last := ch.curCount == 0
  let next : Channel :=
    if last && ch.mode.autoinit then { ch with curAddr := ch.baseAddr, curCount := ch.baseCount }
    else if ch.mode.addrDecrement then { ch with curAddr := ch.curAddr - 1, curCount := ch.curCount - 1 }
    else { ch with curAddr := ch.curAddr + 1, curCount := ch.curCount - 1 }
  let served : Dma :=
    { x with
      chan := x.chan.set j next
      dack := (Quad.all false).set j true
      status := if last then x.status ||| (1#8 <<< chanIndex j) else x.status
      mask := if last && !ch.mode.autoinit then x.mask.set j true else x.mask }
  match d with
  | .dma1 => { s with hlda := true, tc := s.tc || last, dma1 := served }
  | .dma0 =>
    { s with hlda := true, tc := s.tc || last, dma0 := served
             dma1 := { s.dma1 with dack := (Quad.all false).set .c0 true } }

/-- The bytes of memory that a transfer of controller `d` at `a` stores to (41_dma.md R224, 20_memory.md R78). -/
def storedBytes (d : DmaId) (a : PhysAddr) : List Nat :=
  match d with
  | .dma0 => [a.toNat]
  | .dma1 => [a.toNat, (a + 1).toNat]

/-! ## The keyboard device's replies (43_kbd_device.md R330, R348; 42_kbc.md R295) -/

/-- The device answers these bytes: they enter its buffer as far as there is room, each of the others is dropped with a log
entry, and if any entered while the output path is idle a re-poll is due (R330). -/
def State.deviceSends (s : State) (l : List Byte) : State :=
  { s with
    kbd := { s.kbd with buf := (s.kbd.buf ++ l).take 16 }
    kbc := { s.kbc with
      timerPending := s.kbc.timerPending ||
        (!s.kbc.outb && s.kbc.kbdClockEnabled && !l.isEmpty && decide (s.kbd.buf.length < 16)) }
    log := s.log ++ List.replicate (s.kbd.buf.length + l.length - 16) .kbdBufferFull }

/-- A byte for the device arrives at port 0x60 (42_kbc.md R288, R295): the last write was no command, and the keyboard clock
is on, which schedules a re-poll if it was off and the output buffer is empty (R261). -/
def State.deviceByte (s : State) : State :=
  { s with kbc := { s.kbc with
      cD := false, kbdClockEnabled := true
      timerPending := s.kbc.timerPending || (!s.kbc.kbdClockEnabled && !s.kbc.outb) } }

/-- The bytes that 8042 translation makes of a scancode sequence (R348): a break prefix 0xF0 is dropped and sets bit 7 of
the byte after it. -/
def translatedBytes : Bool → List Byte → List Byte
  | _, [] => []
  | brk, b :: l =>
    if b = 0xF0 then translatedBytes true l
    else (if brk then Config.xlat8042 b ||| 0x80 else Config.xlat8042 b) :: translatedBytes false l

/-! ## Components by port (20_memory.md R71) -/

/-- The four PIC ports. -/
def picPort (p : PortNo) : Bool := p == 0x20 || p == 0x21 || p == 0xA0 || p == 0xA1

/-- The two keyboard-controller ports. -/
def kbcPort (p : PortNo) : Bool := p == 0x60 || p == 0x64

end Sys2Proof.Machine
end

