-- ==== Sys2Proof/Certificates/Slice0/Obligations.lean ====
section
/-! DEFINITION. The statements for the provers. Most give the whole next state as a record built on the state before: every
field that such a record does not name is the field of the state before, memory included, which is the statement's frame. -/

open Sys2Proof Sys2Proof.Machine

/-! ## Encoding and the step -/

/-- Words written out from 30_encoding.md R100, R117 and 95_test_vectors.md decode to the operations they stand for. -/
def Obligations.SpecWordsDecode : Prop :=
  decodeTableWord 32 0x1002011 = some (.pic0Icw1 0x11) ∧
  decodeTableWord 32 0x100A020 = some .pic1Eoi ∧
  decodeTableWord 32 0x10020E5 = some (.pic0SeoiRotate 5) ∧
  decodeTableWord 32 0x1000434 = some (.dma0Addr2W 0x34) ∧
  decodeTableWord 32 0x000D000 = some .dma1StatusR ∧
  decodeTableWord 32 0x1008B0A = some (.dmaPageG5W 0x0A) ∧
  decodeTableWord 32 0x10064AA = some .kbcCmdSelfTest ∧
  decodeTableWord 32 0x10060ED = some .kbdCmdSetLeds ∧
  decodeTableWord 32 0x2002000 = some (.inw 0x20) ∧
  decodeTableWord 32 0xE000006 = some .acknowledgeBusHold

/-- Decoding the packet of a well-formed operation gives the operation back, in every context its row is for (R112). -/
def Obligations.EncodeThenDecodeGivesTheOperation : Prop :=
  ∀ (c : DecodeCtx) (i : Instr), wellFormed i = true → selectedIn c i = true → decode c (encode i) = .ok i

/-- 30_encoding.md R102, R114: every byte access to an owned port is an operation, in every context, and encoding that
operation gives the access back (a read's data bits are no part of it). -/
def Obligations.EveryOwnedByteAccessDecodes : Prop :=
  ∀ (c : DecodeCtx) (port : PortNo) (write : Bool) (data : Byte), ownedPort port = true →
    ∃ i, decode c (pack ⟨0, 0, write, port, data, 0, 0⟩) = .ok i ∧ wellFormed i = true ∧ selectedIn c i = true ∧
      encode i = pack ⟨0, 0, write, port, if write then data else 0, 0, 0⟩

/-- 20_memory.md R70, R71: no access of any width to a port outside the block's 54 is an operation of the block. -/
def Obligations.UnownedPortsAreRejected : Prop :=
  (∀ p : PortNo, ownedPort p = true ↔ p ∈ ownedPorts) ∧
  ∀ (c : DecodeCtx) (cls : BitVec 3) (write : Bool) (port : PortNo) (data : Byte) (a b : BitVec 32),
    cls = 0 ∨ cls = 1 ∨ cls = 2 → ownedPort port = false →
    decode c (pack ⟨0, cls, write, port, data, a, b⟩) = .error (.unownedPort port)

/-- A step at a state whose oldest event is an operation of the block, on a port the bus routes to it, performs that
operation with the event taken from the inbox, and adds nothing (00_scope.md R12; notes/assumptions/1.md). -/
def Obligations.StepPerformsTheDecodedOperation : Prop :=
  ∀ (s : State) (p : Packet) (rest : List Event) (i : Instr),
    s.inbox = .op p :: rest → decode s.decodeCtx p = .ok i → s.routes p = true →
    step s = exec i { s with inbox := rest }

/-- What a step does otherwise: with no event nothing (the block is passive); a packet that is no operation, or one on a
port the bus does not route to the block, is refused by name; a collaborator's own move changes that collaborator alone,
and a port that has an owner keeps it (20_memory.md R70). The model's choice (notes/assumptions/1.md, 20.md, 27.md). -/
def Obligations.StepWithoutAnOperation : Prop :=
  (∀ s : State, s.inbox = [] → step s = .next s) ∧
  (∀ (s : State) (p : Packet) (rest : List Event) (e : DecodeError),
    s.inbox = .op p :: rest → decode s.decodeCtx p = .error e → step s = .refused (.undecodable e)) ∧
  (∀ (s : State) (p : Packet) (rest : List Event) (i : Instr) (port : PortNo),
    s.inbox = .op p :: rest → decode s.decodeCtx p = .ok i → packetPort p = some port → port ∉ s.env.granted →
    step s = .refused (.notRouted port)) ∧
  (∀ (s : State) (e : Event) (rest : List Event), s.inbox = e :: rest → (∀ p, e ≠ .op p) →
    step s = .next { s with inbox := rest, env := collaboratorMove e s.env }) ∧
  ∀ (e : Env) (port : PortNo) (b : Byte) (d : DmaId) (j : Chan) (v : Word) (a : PhysAddr) (on : Bool),
    (port ∈ e.granted ∨ port ∈ e.foreign → collaboratorMove (.portClaim port) e = e) ∧
    (port ∉ e.granted → port ∉ e.foreign →
      collaboratorMove (.portClaim port) e = { e with foreign := port :: e.foreign }) ∧
    collaboratorMove (.mouseByte b) e = { e with mouse := e.mouse ++ [b] } ∧
    collaboratorMove (.deviceUnit d j v) e = e.setSupply d j (e.supply d j ++ [v]) ∧
    collaboratorMove (.memoryByte a b) e = { e with mem := e.mem.write a.toNat b } ∧
    collaboratorMove (.a20Gate on) e = { e with a20 := on }

/-! ## The whole machine -/

/-- 10_state.md R50 to R54: the block right after reset, but for the values of the collaborators and of the model's own
fields, which are the model's (notes/assumptions/7.md to 11.md, 15.md). The spec marks its values as decisions D35 to D38. -/
def Obligations.ResetStateHoldsTheSpecValues : Prop :=
  State.reset.master = Pic.atReset 0x08 ∧ State.reset.slave = Pic.atReset 0x70 ∧
  (∀ o, Pic.atReset o = ⟨0, 0, 0xFF, o, 7, 0, false, false, false, false, false, false, false, false, .icw2, false, 0⟩) ∧
  (∀ d j, State.reset.chan d j =
    ⟨⟨.verify, false, false, .demand⟩, 0, 0, 0, 0, 0, d == .dma1 && j == .c0⟩) ∧
  (∀ d j, (State.reset.dma d).drq.get j = false ∧ (State.reset.dma d).dack.get j = false ∧
    (State.reset.dma d).mask.get j = true) ∧
  (∀ d, (State.reset.dma d).flipflop = false ∧ (State.reset.dma d).status = 0 ∧ (State.reset.dma d).command = 0 ∧
    (State.reset.dma d).disabled = false) ∧
  (∀ x, State.reset.ext.get x = 0) ∧ State.reset.hlda = false ∧ State.reset.tc = false ∧
  State.reset.kbc = ⟨false, false, false, true, true, false, false, false, 0, 0, [], true, false, true, true, 0, false, true,
    2, false, false, false, false, false⟩ ∧
  State.reset.kbd = ⟨[], false, false, false, 1, 0x0B, 0, true⟩ ∧
  State.reset.intr = false ∧ State.reset.hrq = false

/-- `reset()` (70_reset_and_hazards.md R421): every element of the block at its reset value; the collaborators, the record
and the events to come stand, but that the block's ports are claimed where no other component owns them. What `reset()` does
to the record and the inbox is the model's (notes/assumptions/23.md). -/
def Obligations.ResetRestoresTheBlock : Prop :=
  ∀ s : State, exec .reset s = .next
    { State.reset with
      env := { s.env with granted := ownedPorts.filter fun p => !s.env.foreign.contains p }
      reply := .done, outputs := s.outputs, log := s.log, inbox := s.inbox }

/-- The invariant holds right after reset. -/
def Obligations.ResetMeetsTheInvariant : Prop := State.reset.Inv

/-- Every step keeps the invariant, from every state that has it. That a grant withdraws another channel's acknowledge is
read from 10_state.md R34 (notes/assumptions/16.md), and the cascade handler is notes/assumptions/13.md's. -/
def Obligations.EveryStepKeepsTheInvariant : Prop :=
  ∀ s t : State, s.Inv → step s = .next t → t.Inv

/-- 00_scope.md R11, R12, 60_exceptions.md R380: every operation runs to completion in every state, and the only failures one
reports are the read of a write-only DMA register, with its port, and the argument of a command that takes none, at port
0x60. -/
def Obligations.EveryOperationCompletesWithTwoFailures : Prop :=
  ∀ (i : Instr) (s : State), ∃ t, exec i s = .next t ∧ ∀ f, t.reply = .raised f →
    (f = .writeOnlyPortRead (encodeFields i).port ∧ ∃ d, i ∈ [Row.writeOnly9 d, Row.writeOnlyA d, Row.writeOnlyB d,
      Row.writeOnlyC d, Row.writeOnlyD d, Row.writeOnlyE d, Row.writeOnlyF d]) ∨
    (f = .unknownPort 0x60 ∧ ∃ data, i = .kbcArgUnexpected data)

/-- 10_state.md R47, 20_memory.md R88: memory is written by a bus grant and by no other operation; the A20 gate is moved by
the two A20 commands and the output-port byte (60_exceptions.md R395). -/
def Obligations.MemoryAndA20HaveFewWriters : Prop :=
  ∀ (i : Instr) (s t : State), exec i s = .next t →
    (i ≠ .acknowledgeBusHold → t.env.mem = s.env.mem) ∧
    (i ≠ .kbcCmdA20Disable → i ≠ .kbcCmdA20Enable → (∀ data, i ≠ .kbcArgOutport data) → t.env.a20 = s.env.a20)

/-- 20_memory.md R71, 10_state.md R44: a byte access to a PIC port changes the PIC pair and INTR; one to a keyboard port the
keyboard controller, the keyboard device, the A20 gate and, of the PIC pair, request bits and pins; one to a DMA port the DMA
pair and HRQ; and each the reply and the record, nothing else. -/
def Obligations.PortsReachTheirComponentOnly : Prop :=
  ∀ (i : Instr) (s t : State), (encodeFields i).cls = 0 → exec i s = .next t →
    (picPort (encodeFields i).port = true →
      t = { s with master := t.master, slave := t.slave, intr := t.intr, reply := t.reply, log := t.log }) ∧
    (kbcPort (encodeFields i).port = true →
      t = { s with
        kbc := t.kbc, kbd := t.kbd, env := { s.env with a20 := t.env.a20 }
        master := { s.master with irr := t.master.irr, irqPin := t.master.irqPin }
        slave := { s.slave with irr := t.slave.irr, irqPin := t.slave.irqPin }
        reply := t.reply, outputs := t.outputs, log := t.log }) ∧
    (picPort (encodeFields i).port = false → kbcPort (encodeFields i).port = false →
      t = { s with dma0 := t.dma0, dma1 := t.dma1, ext := t.ext, hrq := t.hrq, reply := t.reply, log := t.log })

/-- 20_memory.md R73, 40_pic.md R168, 41_dma.md R228, 42_kbc.md R298: a word or doubleword read answers the pattern of ones,
a write is ignored, each is logged, and no state changes. That writes are ignored and logged is the spec's D18
(notes/assumptions/17.md). -/
def Obligations.WideAccessesChangeNothing : Prop :=
  ∀ (port : PortNo) (v : BitVec 16) (w : BitVec 32) (s : State),
    exec (.inw port) s = .next { s with reply := .word 0xFFFF, log := s.log ++ [.wideAccess port] } ∧
    exec (.ind port) s = .next { s with reply := .dword 0xFFFFFFFF, log := s.log ++ [.wideAccess port] } ∧
    exec (.outw port v) s = .next { s with reply := .done, log := s.log ++ [.wideAccess port] } ∧
    exec (.outd port w) s = .next { s with reply := .done, log := s.log ++ [.wideAccess port] }

/-! ## PIC pair -/

/-- `service(c)` (40_pic.md R140, R141): it does nothing while a request is latched or none may be dispatched; else it latches
the one of highest priority, which raises INTR (master) or runs `setIRQ(2)` (slave). D32 is the spec's: special mask lifts the
whole in-service restriction. -/
def Obligations.ServiceLatchesTheHighestPriority : Prop :=
  ∀ (c : PicId) (s : State),
    ((s.pic c).intRequestPin = true → service c s = s) ∧
    ((∀ i, ¬(s.pic c).Dispatchable i) → service c s = s) ∧
    ∀ i, (s.pic c).intRequestPin = false → (s.pic c).Dispatchable i →
      (∀ k, (s.pic c).Dispatchable k → (s.pic c).position i ≤ (s.pic c).position k) →
      service c s =
        match c with
        | .master => { s with master := { s.master with currentIrq := i, intRequestPin := true }, intr := true }
        | .slave => setIrq 2 { s with slave := { s.slave with currentIrq := i, intRequestPin := true } }

/-- `clear_highest(c)` (40_pic.md R142): with nothing in service nothing changes; else the in-service bit of highest priority
is cleared and nothing else changes. -/
def Obligations.ClearHighestClearsTheHighestInService : Prop :=
  ∀ p : Pic,
    (p.isr = 0 → p.clearHighest = p) ∧
    ∀ i, bitAt p.isr i = true → (∀ k, bitAt p.isr k = true → p.position i ≤ p.position k) →
      p.clearHighest = { p with isr := p.isr &&& ~~~(1#8 <<< i.toNat) }

/-- `setIRQ(n)` and `clearIRQ(n)` (40_pic.md R143, R144): no effect on a pin already at that level; else raising sets pin and
request bit and runs the controller's service routine, lowering clears both and runs none. -/
def Obligations.RequestPinsActOnEdges : Prop :=
  ∀ (c : PicId) (i : Input) (n : BitVec 4) (s : State),
    n = (match c with | .master => 0#1 | .slave => 1#1) ++ i →
    let p := s.pic c
    (bitAt p.irqPin i = true → exec (.setIrq n) s = .next { s with reply := .done }) ∧
    (bitAt p.irqPin i = false →
      exec (.setIrq n) s = .next
        { service c (s.setPic c { p with
            irqPin := p.irqPin ||| (1#8 <<< i.toNat), irr := p.irr ||| (1#8 <<< i.toNat) }) with reply := .done }) ∧
    (bitAt p.irqPin i = false → exec (.clearIrq n) s = .next { s with reply := .done }) ∧
    (bitAt p.irqPin i = true →
      exec (.clearIrq n) s = .next
        { s.setPic c { p with
            irqPin := p.irqPin &&& ~~~(1#8 <<< i.toNat), irr := p.irr &&& ~~~(1#8 <<< i.toNat) } with reply := .done })

/-- 40_pic.md R167: an unmasked slave request that no in-service input of the slave blocks (R25, R140) reaches the
master's input 2, pin and request bit; and if the master is idle with input 2 open it is latched there and INTR rises. -/
def Obligations.SlaveRequestReachesTheMaster : Prop :=
  ∀ (i : Input) (s : State),
    bitAt s.slave.irqPin i = false → bitAt s.slave.imr i = false → s.slave.intRequestPin = false →
    (s.slave.specialMask = true ∨ ∀ k, bitAt s.slave.isr k = true → s.slave.position i < s.slave.position k) →
    bitAt s.master.irqPin 2 = false →
    ∃ t, exec (.setIrq (1#1 ++ i)) s = .next t ∧ t.slave.intRequestPin = true ∧
      bitAt t.slave.irr i = true ∧ bitAt t.master.irqPin 2 = true ∧ bitAt t.master.irr 2 = true ∧
      (s.master.intRequestPin = false → s.master.irr = 0 → s.master.isr = 0 → bitAt s.master.imr 2 = false →
        t.master.currentIrq = 2 ∧ t.master.intRequestPin = true ∧ t.intr = true)

/-- `interruptAcknowledge()` (40_pic.md R163 to R165), the block's part of trap entry (60_exceptions.md R385): the four cases,
by what is requested and which input is latched. The rotation and the spurious condition are the spec's D26, D30, D31. -/
def Obligations.AcknowledgeMovesTheRequestIntoService : Prop :=
  ∀ s : State,
    let accepted : Pic → Pic := fun p =>
      { p with
        irr := if p.levelMode then p.irr else p.irr &&& ~~~(1#8 <<< p.currentIrq.toNat)
        isr := if p.autoEoi then p.isr else p.isr ||| (1#8 <<< p.currentIrq.toNat)
        lowestPriority := if p.autoEoi && p.rotateOnAutoEoi then p.currentIrq else p.lowestPriority }
    let m := accepted { s.master with intRequestPin := false }
    let lowered : Pic := { m with irqPin := m.irqPin &&& 0xFB }
    let sl : Pic := { s.slave with intRequestPin := false }
    (s.master.irr = 0 →
      exec .interruptAcknowledge s = .next
        { s with intr := false, master := { s.master with intRequestPin := false }
                 reply := .vector (s.master.offset + 7) }) ∧
    (s.master.irr ≠ 0 → s.master.currentIrq ≠ 2 →
      exec .interruptAcknowledge s = .next
        { service .master { s with intr := false, master := m } with
          reply := .vector (s.master.offset + s.master.currentIrq.setWidth 8) }) ∧
    (s.master.irr ≠ 0 → s.master.currentIrq = 2 → s.slave.irr = 0 →
      exec .interruptAcknowledge s = .next
        { s with intr := false, master := lowered, slave := sl, reply := .vector (s.slave.offset + 7) }) ∧
    (s.master.irr ≠ 0 → s.master.currentIrq = 2 → s.slave.irr ≠ 0 →
      exec .interruptAcknowledge s = .next
        { service .master (service .slave { s with intr := false, master := lowered, slave := accepted sl }) with
          reply := .vector (s.slave.offset + s.slave.currentIrq.setWidth 8) })

/-- `requestIRQNumber(identity)` (40_pic.md R145): the fixed numbers; an unknown identity gets `IRQ_UNSUPPORTED` and a log
entry. The order of the four ATA channels is the spec's D34. -/
def Obligations.IrqNumbersAreFixed : Prop :=
  ∀ s : State,
    (∀ x ∈ ([(.pit, 0), (.keyboard, 1), (.serial, 4), (.floppy, 6), (.rtc, 8), (.mouse, 12), (.ata0, 14), (.ata1, 15),
        (.ata2, 11), (.ata3, 9)] : List (Identity × BitVec 4)),
      exec (.requestIrqNumber x.1) s = .next { s with reply := .irqNumber x.2 }) ∧
    ∀ code, exec (.requestIrqNumber (.other code)) s = .next
      { s with reply := .irqUnsupported, log := s.log ++ [.irqAllocation] }

/-- The initialization words (40_pic.md R146 to R149; D20 to D23, D31): ICW1's reset list, with INTR lowered (master) or master
pin 2 lowered (slave); the vector base; the end of a three-word sequence; auto-EOI, and the log entry without the 8086 bit. -/
def Obligations.InitializationWordsSetUpTheController : Prop :=
  ∀ (c : PicId) (data : Byte) (s : State),
    let opened : Pic → Pic := fun p =>
      { p with
        inInit := true, byteExpected := .icw2, icw1Single := data.getLsbD 1, levelMode := data.getLsbD 3
        imr := 0, isr := 0, irr := 0, lowestPriority := 7, intRequestPin := false
        autoEoi := false, rotateOnAutoEoi := false }
    exec (.pic0Icw1 data) s = .next { s with master := opened s.master, intr := false, reply := .done } ∧
    exec (.pic1Icw1 data) s = .next
      { s with slave := opened s.slave, master := { s.master with irqPin := s.master.irqPin &&& 0xFB }, reply := .done } ∧
    exec (Row.icw2 c data) s = .next
      { s.setPic c { s.pic c with offset := data &&& 0xF8, byteExpected := .icw3 } with reply := .done } ∧
    exec (Row.icw3 c data) s = .next
      { s.setPic c (if (s.pic c).icw1Single then { s.pic c with inInit := false }
                    else { s.pic c with byteExpected := .icw4 }) with reply := .done } ∧
    exec (Row.icw4 c data) s = .next
      { s.setPic c { s.pic c with autoEoi := data.getLsbD 1, inInit := false } with
        reply := .done, log := s.log ++ (if data.getLsbD 0 then [] else [.picNot8086 c]) }

/-- OCW1 (40_pic.md R150): the mask is the byte written, and the service routine runs. -/
def Obligations.MaskWriteSetsTheMaskAndServices : Prop :=
  ∀ (c : PicId) (data : Byte) (s : State),
    exec (Row.ocw1 c data) s = .next { service c (s.setPic c { s.pic c with imr := data }) with reply := .done }

/-- The four end-of-interrupt commands (40_pic.md R151 to R154; D28, D29), the block's part of trap return
(60_exceptions.md R386). -/
def Obligations.EndOfInterruptClearsAndServices : Prop :=
  ∀ (c : PicId) (level : Input) (s : State),
    let p := s.pic c
    let cleared := p.isr &&& ~~~(1#8 <<< level.toNat)
    exec (Row.eoi c) s = .next { service c (s.setPic c p.clearHighest) with reply := .done } ∧
    exec (Row.eoiRotate c) s = .next
      { service c (s.setPic c { p.clearHighest with lowestPriority := p.lowestPriority + 1 }) with reply := .done } ∧
    exec (Row.seoi c level) s = .next { service c (s.setPic c { p with isr := cleared }) with reply := .done } ∧
    exec (Row.seoiRotate c level) s = .next
      { service c (s.setPic c { p with isr := cleared, lowestPriority := level }) with reply := .done }

/-- Set priority, rotate in auto-EOI mode, the no-op and the reserved OCW2 bytes (40_pic.md R155 to R158; D26 to D28): one
field or a log entry, and no service. -/
def Obligations.OtherCommandWordsDoNotService : Prop :=
  ∀ (c : PicId) (level : Input) (data : Byte) (s : State),
    exec (Row.setPriority c level) s = .next
      { s.setPic c { s.pic c with lowestPriority := level } with reply := .done } ∧
    exec (Row.rotAeoiSet c) s = .next { s.setPic c { s.pic c with rotateOnAutoEoi := true } with reply := .done } ∧
    exec (Row.rotAeoiClr c) s = .next { s.setPic c { s.pic c with rotateOnAutoEoi := false } with reply := .done } ∧
    exec (Row.ocw2Nop c) s = .next { s with reply := .done, log := s.log ++ [.picNopCommand c] } ∧
    exec (Row.ocw2Reserved c data) s = .next { s with reply := .done, log := s.log ++ [.picReservedOcw2 c data] }

/-- OCW3 (40_pic.md R159; D24): a poll command sets the poll flag alone; else the flag is cleared, the two selectors act, and
only enabling special mask runs the service routine. -/
def Obligations.ThirdCommandWordSelectsModes : Prop :=
  ∀ (c : PicId) (data : Byte) (s : State),
    let p := s.pic c
    let select : BitVec 2 → Bool → Bool := fun v old => v == 3 || (old && v != 2)
    let u := s.setPic c { p with
      polled := false
      readIsrSelect := select (data.extractLsb' 0 2) p.readIsrSelect
      specialMask := select (data.extractLsb' 5 2) p.specialMask }
    (data.getLsbD 2 = true → exec (Row.ocw3 c data) s = .next { s.setPic c { p with polled := true } with reply := .done }) ∧
    (data.getLsbD 2 = false → data.extractLsb' 5 2 = 3 →
      exec (Row.ocw3 c data) s = .next { service c u with reply := .done }) ∧
    (data.getLsbD 2 = false → data.extractLsb' 5 2 ≠ 3 → exec (Row.ocw3 c data) s = .next { u with reply := .done })

/-- PIC reads (40_pic.md R160 to R162; D25). Not polled: ISR or IRR at the command port, the mask at the mask port, and no
state change. Polled, at either port: the highest in-service bit cleared, the poll flag cleared, service run, and the current
IRQ number after it. -/
def Obligations.PicReadsAndPolls : Prop :=
  ∀ (c : PicId) (s : State),
    exec (Row.readCmd c) s = .next
      { s with reply := .byte (if (s.pic c).readIsrSelect then (s.pic c).isr else (s.pic c).irr) } ∧
    exec (Row.readMask c) s = .next { s with reply := .byte (s.pic c).imr } ∧
    let t := service c (s.setPic c { (s.pic c).clearHighest with polled := false })
    exec (Row.pollCmd c) s = .next { t with reply := .byte ((t.pic c).currentIrq.setWidth 8) } ∧
    exec (Row.pollMask c) s = .next { t with reply := .byte ((t.pic c).currentIrq.setWidth 8) }

/-! ## DMA pair -/

/-- `registerChannel(g, handler)` (41_dma.md R200): a number above 7 or a channel in use fails and changes nothing; any other
becomes in use, bound to the handler; channel 4 always fails (it is in use, 10_state.md R34). -/
def Obligations.RegistrationBindsAFreeChannel : Prop :=
  ∀ (g : BitVec 32) (h : Handler) (s : State),
    let d := globalController (g.setWidth 3)
    let j := globalChan (g.setWidth 3)
    ((7 < g.toNat ∨ (s.chan d j).inUse = true) →
      exec (.registerChannel g h) s = .next { s with reply := .registered false }) ∧
    (g.toNat ≤ 7 → (s.chan d j).inUse = false →
      exec (.registerChannel g h) s = .next
        { s.setDma d { s.dma d with
            chan := (s.dma d).chan.set j { s.chan d j with inUse := true }
            handler := (s.dma d).handler.set j (some h) } with reply := .registered true }) ∧
    (s.Inv → g = 4 → exec (.registerChannel g h) s = .next { s with reply := .registered false })

/-- Hold-request arbitration (41_dma.md R202): controller 1 drives HRQ by its own want; controller 0 drives the cascade
channel's request (`setDMARequest(4, want)`) by its own, and HRQ follows from controller 1. -/
def Obligations.ArbitrationDrivesTheHoldRequest : Prop :=
  ∀ s : State,
    (s.dma1.Wants → holdEval .dma1 s = { s with hrq := true }) ∧
    (¬s.dma1.Wants → holdEval .dma1 s = { s with hrq := false }) ∧
    (s.dma0.Wants → holdEval .dma0 s = setRequest .dma1 .c0 true s) ∧
    (¬s.dma0.Wants → holdEval .dma0 s = setRequest .dma1 .c0 false s)

/-- `setDMARequest(g, b)` (41_dma.md R204, 20_memory.md R81; D14, D15): DRQ and the request bit follow `b`; an assertion logs
block mode and a boundary crossing; then arbitration. Channel `g` is local channel `g & 3` of controller `g >> 2`
(00_scope.md R4). -/
def Obligations.RequestLineSetsTheRequestBit : Prop :=
  (∀ g : BitVec 3, globalController g = (if g.toNat / 4 = 0 then .dma0 else .dma1) ∧
    chanIndex (globalChan g) = g.toNat % 4) ∧
  ∀ (g : BitVec 3) (s : State),
    let d := globalController g
    let j := globalChan g
    let x := s.dma d
    let ch := s.chan d j
    exec (.setDmaRequest g true) s = .next
      { holdEval d { s.setDma d { x with drq := x.drq.set j true, status := x.status ||| (0x10#8 <<< chanIndex j) } with
          log := s.log ++ (if ch.mode.modeType = .block then [.dmaBlockMode d j] else []) ++
            (if crossesBoundary d ch = true then [.dmaBoundary d j] else []) }
        with reply := .done } ∧
    exec (.setDmaRequest g false) s = .next
      { holdEval d (s.setDma d { x with drq := x.drq.set j false, status := x.status &&& ~~~(0x10#8 <<< chanIndex j) })
        with reply := .done }

/-- 41_dma.md R227 (a): after every operation that arbitrates, HRQ is 1 exactly when controller 1 is enabled with an unmasked
pending request, and after one on controller 0 the cascade request is pending exactly when controller 0 is. -/
def Obligations.HoldRequestIffWanted : Prop :=
  ∀ (d : DmaId) (b : Bool) (data : Byte) (g : BitVec 3) (i : Instr) (s : State),
    i ∈ [Row.commandW d data, Row.singleMaskW d data, Row.masterClear d data, Row.clearMask d data, Row.fullMaskW d data,
      .setDmaRequest g b] →
    (i = .setDmaRequest g b → d = globalController g) →
    ∃ t, exec i s = .next t ∧ (t.hrq = true ↔ t.dma1.Wants) ∧
      (d = .dma0 → (t.dma1.status.getLsbD 4 = true ↔ t.dma0.Wants))

/-- Address and count accesses (41_dma.md R205 to R208; D2, D7): a write puts its byte into the half of base and current that
the flip-flop selects, a read gives that half of the current register, and each toggles the flip-flop. -/
def Obligations.AddressAndCountAccessesMoveOneHalf : Prop :=
  ∀ (d : DmaId) (j : Chan) (data : Byte) (s : State),
    let x := s.dma d
    let ch := s.chan d j
    let put : Word → Word := fun v =>
      if x.flipflop then data ++ v.extractLsb' 0 8 else v.extractLsb' 8 8 ++ data
    let half : Word → Byte := fun v => if x.flipflop then v.extractLsb' 8 8 else v.extractLsb' 0 8
    exec (Row.addrW d j data) s = .next
      { s.setDma d { x with
          flipflop := !x.flipflop
          chan := x.chan.set j { ch with baseAddr := put ch.baseAddr, curAddr := put ch.curAddr } } with reply := .done } ∧
    exec (Row.countW d j data) s = .next
      { s.setDma d { x with
          flipflop := !x.flipflop
          chan := x.chan.set j { ch with baseCount := put ch.baseCount, curCount := put ch.curCount } } with reply := .done } ∧
    exec (Row.addrR d j) s = .next
      { s.setDma d { x with flipflop := !x.flipflop } with reply := .byte (half ch.curAddr) } ∧
    exec (Row.countR d j) s = .next
      { s.setDma d { x with flipflop := !x.flipflop } with reply := .byte (half ch.curCount) }

/-- 41_dma.md R227 (c): two writes after a cleared flip-flop, low byte first, and two reads after another clear give the two
bytes back, from any state. -/
def Obligations.RegisterRoundTripThroughTheFlipflop : Prop :=
  ∀ (d : DmaId) (j : Chan) (lo hi any₁ any₂ : Byte) (s : State),
    (∃ t u v,
      performAll [Row.clearFlipflop d any₁, Row.addrW d j lo, Row.addrW d j hi, Row.clearFlipflop d any₂] s = .next t ∧
      (t.chan d j).curAddr = hi ++ lo ∧ (t.chan d j).baseAddr = hi ++ lo ∧
      exec (Row.addrR d j) t = .next u ∧ u.reply = .byte lo ∧ exec (Row.addrR d j) u = .next v ∧ v.reply = .byte hi) ∧
    (∃ t u v,
      performAll [Row.clearFlipflop d any₁, Row.countW d j lo, Row.countW d j hi, Row.clearFlipflop d any₂] s = .next t ∧
      (t.chan d j).curCount = hi ++ lo ∧ (t.chan d j).baseCount = hi ++ lo ∧
      exec (Row.countR d j) t = .next u ∧ u.reply = .byte lo ∧ exec (Row.countR d j) u = .next v ∧ v.reply = .byte hi)

/-- Command write (41_dma.md R209; D2, D6): stored, bit 2 disables, the other bits are logged. Single-channel and full mask
writes (R212, R217; D5). Each ends with arbitration. -/
def Obligations.CommandAndMaskWritesArbitrate : Prop :=
  ∀ (d : DmaId) (data : Byte) (s : State),
    let x := s.dma d
    exec (Row.commandW d data) s = .next
      { holdEval d { s.setDma d { x with command := data, disabled := data.getLsbD 2 } with
          log := s.log ++ (if data &&& 0xFB = 0 then [] else [.dmaCommandBits d data]) } with reply := .done } ∧
    exec (Row.singleMaskW d data) s = .next
      { holdEval d (s.setDma d { x with mask := x.mask.set (chanOf (data.extractLsb' 0 2)) (data.getLsbD 2) })
        with reply := .done } ∧
    exec (Row.fullMaskW d data) s = .next
      { holdEval d (s.setDma d { x with
          mask := ⟨data.getLsbD 0, data.getLsbD 1, data.getLsbD 2, data.getLsbD 3⟩ }) with reply := .done }

/-- Clear flip-flop, master clear and clear mask (41_dma.md R214 to R216), whatever the byte written. -/
def Obligations.ClearOperationsOfTheDma : Prop :=
  ∀ (d : DmaId) (data : Byte) (s : State),
    exec (Row.clearFlipflop d data) s = .next { s.setDma d { s.dma d with flipflop := false } with reply := .done } ∧
    exec (Row.masterClear d data) s = .next
      { holdEval d (s.setDma d { s.dma d with
          mask := ⟨true, true, true, true⟩, command := 0, disabled := false, status := 0, flipflop := false })
        with reply := .done } ∧
    exec (Row.clearMask d data) s = .next
      { holdEval d (s.setDma d { s.dma d with mask := ⟨false, false, false, false⟩ }) with reply := .done }

/-- Mode write, request-register write, status read (41_dma.md R213, R211, R210; D2, D4, D8), with the codes of the
mode byte's fields and of a channel number (10_state.md R29, 30_encoding.md R108). -/
def Obligations.ModeRequestAndStatusAccesses : Prop :=
  (∀ (d : DmaId) (data : Byte) (s : State),
    let j := chanOf (data.extractLsb' 0 2)
    exec (Row.modeW d data) s = .next
      { s.setChan d j { s.chan d j with mode :=
          { transferType := transferTypeOf (data.extractLsb' 2 2), autoinit := data.getLsbD 4
            addrDecrement := data.getLsbD 5, modeType := modeTypeOf (data.extractLsb' 6 2) } } with reply := .done } ∧
    exec (Row.requestW d data) s = .next { s with reply := .done, log := s.log ++ [.dmaRequestWrite d] } ∧
    exec (Row.statusR d) s = .next
      { s.setDma d { s.dma d with status := (s.dma d).status &&& 0xF0 } with reply := .byte (s.dma d).status }) ∧
  (transferTypeOf 0 = .verify ∧ transferTypeOf 1 = .writeToMemory ∧ transferTypeOf 2 = .readFromMemory ∧
    transferTypeOf 3 = .undefinedType) ∧
  (modeTypeOf 0 = .demand ∧ modeTypeOf 1 = .single ∧ modeTypeOf 2 = .block ∧ modeTypeOf 3 = .cascade) ∧
  (chanOf 0 = .c0 ∧ chanOf 1 = .c1 ∧ chanOf 2 = .c2 ∧ chanOf 3 = .c3) ∧
  chanIndex .c0 = 0 ∧ chanIndex .c1 = 1 ∧ chanIndex .c2 = 2 ∧ chanIndex .c3 = 3

/-- Page registers and extra page slots (41_dma.md R218 to R220; D3, D13). -/
def Obligations.PageRegistersAreStorage : Prop :=
  ∀ (d : DmaId) (j : Chan) (x : ExtSlot) (data : Byte) (s : State),
    exec (Row.pageW d j data) s = .next { s.setChan d j { s.chan d j with page := data } with reply := .done } ∧
    exec (Row.pageR d j) s = .next { s with reply := .byte (s.chan d j).page } ∧
    exec (Row.extW x data) s = .next { s with ext := s.ext.set x data, reply := .done } ∧
    exec (Row.extR x) s = .next { s with reply := .byte (s.ext.get x) } ∧
    (s.ext.set x data).get x = data ∧ ∀ y, y ≠ x → (s.ext.set x data).get y = s.ext.get y

/-- Reads of the seven write-only registers of each controller (41_dma.md R221; D9): the failure with the port's number, and
no state change. -/
def Obligations.WriteOnlyReadsFail : Prop :=
  ∀ (d : DmaId) (s : State),
    ∀ x ∈ [(Row.writeOnly9 d, 0x9), (Row.writeOnlyA d, 0xA), (Row.writeOnlyB d, 0xB), (Row.writeOnlyC d, 0xC),
        (Row.writeOnlyD d, 0xD), (Row.writeOnlyE d, 0xE), (Row.writeOnlyF d, 0xF)],
      exec x.1 s = .next
        { s with reply := .raised (.writeOnlyPortRead
            (match d with | .dma0 => BitVec.ofNat 16 x.2 | .dma1 => BitVec.ofNat 16 (0xC0 + 2 * x.2))) }

/-- `acknowledgeBusHold()` (41_dma.md R222 to R225; D12). With nothing to serve: the grant flag, and the cascade acknowledge
where controller 1 selects its cascade channel. Else the registers of the channel served advance, its data moves at the
address formed before they did (20_memory.md R77; D10), and at terminal count the bus is released. That a grant withdraws
every other acknowledge of that controller is the model's reading of 10_state.md R34 and 90_conflicts.md C4
(notes/assumptions/16.md); the A20 gate is not applied (notes/assumptions/26.md). -/
def Obligations.GrantPerformsOneTransfer : Prop :=
  ∀ s : State,
    ((∀ j, ¬s.dma1.Selects j) → exec .acknowledgeBusHold s = .next { s with hlda := true, reply := .done }) ∧
    (s.dma1.Selects .c0 → (∀ j, ¬s.dma0.Selects j) →
      exec .acknowledgeBusHold s = .next
        { s with hlda := true, dma1 := { s.dma1 with dack := (Quad.all false).set .c0 true }, reply := .done }) ∧
    ∀ (d : DmaId) (j : Chan), s.Grants d j →
      let ch := s.chan d j
      let t := transferData d j ch.mode.transferType (physAddr d ch) (s.advanced d j)
      (ch.curCount ≠ 0 → exec .acknowledgeBusHold s = .next { t with reply := .done }) ∧
      (ch.curCount = 0 → exec .acknowledgeBusHold s = .next { transferRelease d j t with reply := .done })

/-- The data part of a transfer (41_dma.md R224, R226, 20_memory.md R78; D14, D16, D17, D58). The unit of a device whose supply
list is empty is a free value (notes/assumptions/11.md), and the A20 gate is not applied (notes/assumptions/26.md). -/
def Obligations.TransferMovesOneUnit : Prop :=
  ∀ (d : DmaId) (j : Chan) (a : PhysAddr) (s : State),
    let asked : State := { s with outputs := s.outputs ++ [.devToMem d j s.tc] }
    let handed : State := match s.env.supply d j with
      | _ :: rest => { asked with env := s.env.setSupply d j rest }
      | [] => { asked with env := { s.env with freeUnits := s.env.freeUnits + 1 } }
    let v : Word := (s.env.supply d j).headD (Config.deviceUnit s.env.freeUnits)
    let unit : Word := match d with
      | .dma0 => 0#8 ++ s.env.mem.read a.toNat
      | .dma1 => s.env.mem.read (a + 1).toNat ++ s.env.mem.read a.toNat
    let missing : State := { s with log := s.log ++ [.dmaMissingHandler d j] }
    (∀ h, (s.dma d).handler.get j = some h → h.devToMem = true →
      transferData d j .writeToMemory a s = { handed with env := { handed.env with mem :=
        match d with
        | .dma0 => s.env.mem.write a.toNat (v.extractLsb' 0 8)
        | .dma1 => (s.env.mem.write a.toNat (v.extractLsb' 0 8)).write (a + 1).toNat (v.extractLsb' 8 8) } } ∧
      transferData d j .verify a s = handed) ∧
    (∀ h, (s.dma d).handler.get j = some h → h.memToDev = true →
      transferData d j .readFromMemory a s = { s with outputs := s.outputs ++ [.memToDev d j unit s.tc] }) ∧
    ((∀ h, (s.dma d).handler.get j = some h → h.devToMem = false) →
      transferData d j .writeToMemory a s = missing ∧ transferData d j .verify a s = missing) ∧
    ((∀ h, (s.dma d).handler.get j = some h → h.memToDev = false) → transferData d j .readFromMemory a s = missing) ∧
    transferData d j .undefinedType a s = { s with log := s.log ++ [.dmaUndefinedTransferType d j] }

/-- The bytes a grant stores (41_dma.md R224, 20_memory.md R77, R78): at the address of the channel before the grant, the
unit's bytes, low byte first; every other byte of memory reads as before, and with a transfer type other than write-to-memory,
or without the callback, every byte does. The A20 gate is not applied (notes/assumptions/26.md). -/
def Obligations.GrantStoresItsUnitAndNothingElse : Prop :=
  ∀ (s t : State) (d : DmaId) (j : Chan), s.Grants d j → exec .acknowledgeBusHold s = .next t →
    let ch := s.chan d j
    let a := physAddr d ch
    (∀ b : Nat, b ∉ storedBytes d a → t.env.mem.read b = s.env.mem.read b) ∧
    (ch.mode.transferType ≠ .writeToMemory → ∀ b : Nat, t.env.mem.read b = s.env.mem.read b) ∧
    ((∀ h, (s.dma d).handler.get j = some h → h.devToMem = false) → ∀ b : Nat, t.env.mem.read b = s.env.mem.read b) ∧
    (s.env.mem.wf = true → ch.mode.transferType = .writeToMemory →
      ∀ h v rest, (s.dma d).handler.get j = some h → h.devToMem = true → s.env.supply d j = v :: rest →
        t.env.mem.read a.toNat = v.extractLsb' 0 8 ∧ (d = .dma1 → t.env.mem.read (a + 1).toNat = v.extractLsb' 8 8))

/-- The release at terminal count (41_dma.md R225; D12): TC, HLDA and HRQ fall, the channel's acknowledge is withdrawn; for
controller 0 the cascade channel's request and acknowledge are withdrawn and controller 1 is arbitrated. -/
def Obligations.ReleaseAtTerminalCount : Prop :=
  ∀ (j : Chan) (s : State),
    transferRelease .dma1 j s =
      { s with tc := false, hlda := false, hrq := false, dma1 := { s.dma1 with dack := s.dma1.dack.set j false } } ∧
    let cascade : Dma := { s.dma1 with
      drq := s.dma1.drq.set .c0 false, status := s.dma1.status &&& 0xEF, dack := s.dma1.dack.set .c0 false }
    let t : State := { s with
      tc := false, hlda := false, dma0 := { s.dma0 with dack := s.dma0.dack.set j false }, dma1 := cascade }
    (cascade.Wants → transferRelease .dma0 j s = { t with hrq := true }) ∧
    (¬cascade.Wants → transferRelease .dma0 j s = { t with hrq := false })

/-- 41_dma.md R223: a channel with current count N that every grant serves reaches terminal count exactly at the (N+1)-th:
not before, with its count going down by one each time and its status, mask and the hold request as they were; and there it
restores address and count (auto-init) or is masked with its count at 0xFFFF, and the bus is released (R225). That HLDA falls there is the spec's D12. -/
def Obligations.TerminalCountAfterNPlusOneTransfers : Prop :=
  ∀ (s : State) (d : DmaId) (j : Chan), s.Grants d j →
    let n := (s.chan d j).curCount.toNat
    (∀ k, k ≤ n → ∃ t, performAll (List.replicate k .acknowledgeBusHold) s = .next t ∧ t.Grants d j ∧
      (t.chan d j).curCount.toNat = n - k ∧ (t.dma d).status = (s.dma d).status ∧ (t.dma d).mask = (s.dma d).mask ∧
      t.hrq = s.hrq) ∧
    ∃ t, performAll (List.replicate (n + 1) .acknowledgeBusHold) s = .next t ∧
      (t.dma d).status = (s.dma d).status ||| (1#8 <<< chanIndex j) ∧ t.hlda = false ∧ t.tc = false ∧
      (if (s.chan d j).mode.autoinit then
        (t.chan d j).curAddr = (s.chan d j).baseAddr ∧ (t.chan d j).curCount = (s.chan d j).baseCount ∧
        (t.dma d).mask = (s.dma d).mask
      else (t.chan d j).curCount = 0xFFFF ∧ (t.dma d).mask = (s.dma d).mask.set j true)

/-- The address of a transfer (20_memory.md R77, R79; D10): page over the shifted current address, and even on controller 1. -/
def Obligations.TransferAddressIsPageOverAddress : Prop :=
  ∀ ch : Channel,
    physAddr .dma0 ch = ch.page ++ ch.curAddr ∧
    physAddr .dma1 ch = (ch.page ||| (ch.curAddr >>> 15).setWidth 8) ++ (ch.curAddr <<< 1) ∧
    (physAddr .dma1 ch).getLsbD 0 = false

/-- The acknowledges after a grant (10_state.md R34, 90_conflicts.md C4, 41_dma.md R222, R223, R225; D12): the channel served is
the one acknowledged in its controller, with the cascade channel the one in controller 1 for a channel of controller 0, and
at terminal count none is. That a grant withdraws another channel's acknowledge is read from R34 (notes/assumptions/16.md). -/
def Obligations.GrantAcknowledgesTheChannelServed : Prop :=
  ∀ (s : State) (d : DmaId) (j : Chan), s.Grants d j → ∃ t, exec .acknowledgeBusHold s = .next t ∧
    let last := (s.chan d j).curCount = 0
    (∀ k, (t.dma d).dack.get k = true ↔ k = j ∧ ¬last) ∧
    (d = .dma0 → ∀ k, t.dma1.dack.get k = true ↔ k = .c0 ∧ ¬last) ∧
    (d = .dma1 → t.dma0 = s.dma0)

/-! ## Keyboard controller -/

/-- The status read at port 0x64 (42_kbc.md R267, 10_state.md R36; D39): each flag at its bit, and `tim` is cleared. -/
def Obligations.StatusReadGivesTheEightFlags : Prop :=
  ∀ s : State, ∃ v : Byte,
    exec .kbcStatusR s = .next { s with kbc := { s.kbc with tim := false }, reply := .byte v } ∧
    v.getLsbD 7 = s.kbc.pare ∧ v.getLsbD 6 = s.kbc.tim ∧ v.getLsbD 5 = s.kbc.auxb ∧ v.getLsbD 4 = s.kbc.keyl ∧
    v.getLsbD 3 = s.kbc.cD ∧ v.getLsbD 2 = s.kbc.sysf ∧ v.getLsbD 1 = s.kbc.inpb ∧ v.getLsbD 0 = s.kbc.outb

/-- Port 0x60 read on the mouse and on the keyboard path (42_kbc.md R264, R265; D47): the buffer's byte; a queued byte takes its
place on the same side, else the buffer is empty; the IRQ line falls (`clearIRQ`); a re-poll is due. With nothing pending
(R266): the last keyboard byte and a log entry, no state change. -/
def Obligations.DataReadDeliversAndRefills : Prop :=
  ∀ s : State,
    let aux : Kbc := match s.kbc.q with
      | [] => { s.kbc with outb := false, auxb := false, irq12Requested := false, timerPending := true }
      | b :: rest => { s.kbc with
          auxOutputBuffer := b, q := rest, outb := true, auxb := true, irq12Requested := s.kbc.allowIrq12
          timerPending := true }
    let kbd : Kbc := match s.kbc.q with
      | [] => { s.kbc with
          outb := false, auxb := false, irq1Requested := false, batInProgress := false, timerPending := true }
      | b :: rest => { s.kbc with
          kbdOutputBuffer := b, q := rest, outb := true, auxb := false, irq1Requested := s.kbc.allowIrq1
          batInProgress := false, timerPending := true }
    exec .kbcDataRAux s = .next { clearIrq 12 s with kbc := aux, reply := .byte s.kbc.auxOutputBuffer } ∧
    exec .kbcDataRKbd s = .next { clearIrq 1 s with kbc := kbd, reply := .byte s.kbc.kbdOutputBuffer } ∧
    exec .kbcDataREmpty s = .next
      { s with reply := .byte s.kbc.kbdOutputBuffer, log := s.log ++ [.kbcReadOfEmptyBuffer] }

/-- Injected bytes, the arguments of 0xD2 and 0xD3 (42_kbc.md R291, R292, R288, R263; D47, D48): into the output buffer of
their side with the IRQ request if allowed, or behind the queue when the buffer is full. -/
def Obligations.InjectedByteEntersTheOutputPath : Prop :=
  ∀ (data : Byte) (s : State),
    let k : Kbc := { s.kbc with cD := false, expectingPort60h := false }
    let queued : State := { s with
      kbc := { k with q := s.kbc.q ++ [data] }
      log := s.log ++ (if s.kbc.q.length < 5 then [] else [.kbcQueueOverrun])
      reply := .done }
    (s.kbc.outb = true →
      exec (.kbcArgKbdOutbuf data) s = .next queued ∧ exec (.kbcArgAuxOutbuf data) s = .next queued) ∧
    (s.kbc.outb = false →
      exec (.kbcArgKbdOutbuf data) s = .next
        { s with
          kbc := { k with
            kbdOutputBuffer := data, outb := true, auxb := false, inpb := false
            irq1Requested := s.kbc.irq1Requested || s.kbc.allowIrq1 }
          reply := .done } ∧
      exec (.kbcArgAuxOutbuf data) s = .next
        { s with
          kbc := { k with
            auxOutputBuffer := data, outb := true, auxb := true, inpb := false
            irq12Requested := s.kbc.irq12Requested || s.kbc.allowIrq12 }
          reply := .done })

/-- The commands that answer a byte at once (42_kbc.md R268, R269, R273 to R275, R278; D40 to D45): each byte enters the output
path as an injected one does (`kbcEnqueue`), but that reading the config byte is refused while the buffer is full, and the
first self-test empties queue and buffer. -/
def Obligations.ControllerRepliesAreEnqueued : Prop :=
  ∀ s : State,
    let after : Byte → State := fun c =>
      { s with kbc := { s.kbc with cD := true, lastComm := c, expectingPort60h := false } }
    let k := s.kbc
    let config : Byte := (if k.scancodesTranslate then 0x40#8 else 0) ||| (if k.auxClockEnabled then 0 else 0x20#8) |||
      (if k.kbdClockEnabled then 0 else 0x10#8) ||| (if k.sysf then 4 else 0) ||| (if k.allowIrq12 then 2 else 0) |||
      (if k.allowIrq1 then 1 else 0)
    let outport : Byte := (if k.irq12Requested then 0x20#8 else 0) ||| (if k.irq1Requested then 0x10#8 else 0) |||
      (if s.env.a20 then 2 else 0) ||| 1
    (k.outb = true → exec .kbcCmdReadConfig s = .next
      { after 0x20 with reply := .done, log := s.log ++ [.kbcOutputBufferFull] }) ∧
    (k.outb = false → exec .kbcCmdReadConfig s = .next { kbcEnqueue config false (after 0x20) with reply := .done }) ∧
    exec .kbcCmdAuxTest s = .next { kbcEnqueue 0xFF false (after 0xA9) with reply := .done } ∧
    exec .kbcCmdKbdIfTest s = .next { kbcEnqueue 0x00 false (after 0xAB) with reply := .done } ∧
    exec .kbcCmdReadOutport s = .next { kbcEnqueue outport false (after 0xD0) with reply := .done } ∧
    (k.selftestDone = true → exec .kbcCmdSelfTest s = .next
      { kbcEnqueue 0x55 false { after 0xAA with kbc := { (after 0xAA).kbc with sysf := true } } with reply := .done }) ∧
    (k.selftestDone = false → exec .kbcCmdSelfTest s = .next
      { s with
        kbc := { (after 0xAA).kbc with
          q := [], selftestDone := true, sysf := true, kbdOutputBuffer := 0x55, outb := true, auxb := false, inpb := false
          irq1Requested := k.irq1Requested || k.allowIrq1 }
        reply := .done })

/-- The clock commands (42_kbc.md R271, R272, R276, R277, R261, R262, R268; D42, D46): the clock follows the command, and
switching it on from off with an empty output buffer makes a re-poll due. -/
def Obligations.ClockCommandsSwitchTheClocks : Prop :=
  ∀ s : State,
    let k : Kbc := { s.kbc with cD := true, expectingPort60h := false }
    exec .kbcCmdAuxDisable s = .next { s with kbc := { k with lastComm := 0xA7, auxClockEnabled := false }, reply := .done } ∧
    exec .kbcCmdAuxEnable s = .next
      { s with
        kbc := { k with lastComm := 0xA8, auxClockEnabled := true
                        timerPending := k.timerPending || (!k.auxClockEnabled && !k.outb) }
        reply := .done } ∧
    exec .kbcCmdKbdDisable s = .next { s with kbc := { k with lastComm := 0xAD, kbdClockEnabled := false }, reply := .done } ∧
    exec .kbcCmdKbdEnable s = .next
      { s with
        kbc := { k with lastComm := 0xAE, kbdClockEnabled := true
                        timerPending := k.timerPending || (!k.kbdClockEnabled && !k.outb) }
        reply := .done }

/-- The commands that take an argument, the two A20 commands, and the commands with no effect of their own (42_kbc.md R268,
R270, R279 to R287; D42, D43, D61). -/
def Obligations.CommandsWithoutAReply : Prop :=
  ∀ (data : Byte) (s : State),
    let after : Byte → Bool → Kbc := fun c e => { s.kbc with cD := true, lastComm := c, expectingPort60h := e }
    (∀ x ∈ ([(.kbcCmdWriteConfig, 0x60), (.kbcCmdWriteOutport, 0xD1), (.kbcCmdWriteKbdOutbuf, 0xD2),
        (.kbcCmdWriteAuxOutbuf, 0xD3), (.kbcCmdWriteToMouse, 0xD4)] : List (Instr × Byte)),
      exec x.1 s = .next { s with kbc := after x.2 true, reply := .done }) ∧
    exec .kbcCmdA20Disable s = .next
      { s with kbc := after 0xDD false, env := { s.env with a20 := false }, reply := .done } ∧
    exec .kbcCmdA20Enable s = .next
      { s with kbc := after 0xDF false, env := { s.env with a20 := true }, reply := .done } ∧
    exec (.kbcCmdPulseNop data) s = .next { s with kbc := after data false, reply := .done } ∧
    exec .kbcCmdSystemResetUnimpl s = .next
      { s with kbc := after 0xFE false, reply := .done, log := s.log ++ [.kbcSystemResetNotImplemented] } ∧
    exec (.kbcCmdUnsupported data) s = .next
      { s with kbc := after data false, reply := .done, log := s.log ++ [.kbcUnsupportedCommand data] }

/-- The controller's arguments at port 0x60 (42_kbc.md R288 to R290, R293, R294, R261, R262; D40, D41, D46, D61, D63, D64): the
config byte; the output-port byte; the byte for the mouse; the argument of a command that takes none. -/
def Obligations.ControllerArgumentsAreConsumed : Prop :=
  ∀ (data : Byte) (s : State),
    let k : Kbc := { s.kbc with cD := false, expectingPort60h := false }
    let kOn := !data.getLsbD 4
    let aOn := !data.getLsbD 5
    exec (.kbcArgConfig data) s = .next
      { s with
        kbc := { k with
          scancodesTranslate := data.getLsbD 6, sysf := data.getLsbD 2
          allowIrq12 := data.getLsbD 1, allowIrq1 := data.getLsbD 0
          kbdClockEnabled := kOn, auxClockEnabled := aOn
          timerPending := k.timerPending || (!k.outb && ((kOn && !k.kbdClockEnabled) || (aOn && !k.auxClockEnabled)))
          irq12Requested := k.irq12Requested || (data.getLsbD 1 && k.auxb)
          irq1Requested := k.irq1Requested || (!(data.getLsbD 1 && k.auxb) && data.getLsbD 0 && k.outb) }
        reply := .done } ∧
    exec (.kbcArgOutport data) s = .next
      { s with
        kbc := k, env := { s.env with a20 := data.getLsbD 1 }, reply := .done
        outputs := s.outputs ++ (if data.getLsbD 0 then [] else [.cpuResetRequest]) } ∧
    exec (.kbcArgToMouse data) s = .next { s with kbc := k, reply := .done, outputs := s.outputs ++ [.mouseControl data] } ∧
    exec (.kbcArgUnexpected data) s = .next { s with kbc := k, reply := .raised (.unknownPort 0x60) }

/-- `poll()` (42_kbc.md R296; D49): the two requests are cleared; if a re-poll was due it is no longer, and with an empty output
buffer one byte is fetched, the keyboard's before the mouse's. -/
def Obligations.PollFetchesOneByte : Prop :=
  ∀ s : State,
    let k : Kbc := { s.kbc with irq1Requested := false, irq12Requested := false }
    let off : Kbc := { k with timerPending := false }
    let kbdReady := (k.kbdClockEnabled || k.batInProgress) && !s.kbd.buf.isEmpty
    let auxReady := k.auxClockEnabled && !s.env.mouse.isEmpty
    (k.timerPending = false → pollCycle s = { s with kbc := k }) ∧
    (k.timerPending = true → (k.outb = true ∨ (kbdReady = false ∧ auxReady = false)) → pollCycle s = { s with kbc := off }) ∧
    (k.timerPending = true → k.outb = false → kbdReady = true →
      pollCycle s = { s with
        kbc := { off with kbdOutputBuffer := s.kbd.buf.headD 0, outb := true, auxb := false, irq1Requested := k.allowIrq1 }
        kbd := { s.kbd with buf := s.kbd.buf.tail } }) ∧
    (k.timerPending = true → k.outb = false → kbdReady = false → auxReady = true →
      pollCycle s = { s with
        kbc := { off with auxOutputBuffer := s.env.mouse.headD 0, outb := true, auxb := true, irq12Requested := k.allowIrq12 }
        env := { s.env with mouse := s.env.mouse.tail } })

/-- `update()` (42_kbc.md R297, 30_encoding.md R115; D49): the poll, then `setIRQ(1)` and `setIRQ(12)` for the requests that
were latched before it; the code is their two bits. -/
def Obligations.UpdateRaisesTheLatchedRequests : Prop :=
  ∀ s : State,
    let k1 : State := if s.kbc.irq1Requested then setIrq 1 (pollCycle s) else pollCycle s
    let k12 : State := if s.kbc.irq12Requested then setIrq 12 k1 else k1
    let code : BitVec 2 := (if s.kbc.irq12Requested then 2 else 0) + (if s.kbc.irq1Requested then 1 else 0)
    exec .update s = .next { k12 with reply := .pollCode code }

/-! ## Keyboard device -/

/-- The argument bytes (43_kbd_device.md R333 to R335, R330, 42_kbc.md R288, R295; D46, D50, D51, D54). -/
def Obligations.DeviceArgumentsAreConsumed : Prop :=
  ∀ (data : Byte) (s : State), s.kbd.buf.length ≤ 16 →
    let u := s.deviceByte
    exec (.kbdArgTypematic data) s = .next
      { State.deviceSends { u with kbd := { u.kbd with
            expectingTypematic := false, delay := data.extractLsb' 5 2, repeatRate := data.extractLsb' 0 5 } } [0xFA]
        with reply := .done } ∧
    exec (.kbdArgLed data) s = .next
      { State.deviceSends { u with
          kbd := { u.kbd with expectingLedWrite := false, ledStatus := data }
          outputs := s.outputs ++ [.notify .num (data.getLsbD 1), .notify .caps (data.getLsbD 2),
            .notify .scroll (data.getLsbD 0)] } [0xFA] with reply := .done } ∧
    let w : State := { u with kbd := { u.kbd with expectingScancodeSet := false } }
    (data = 0 → exec (.kbdArgScancodeSet data) s = .next
      { w.deviceSends [0xFA, s.kbc.currentScancodeSet.setWidth 8] with reply := .done }) ∧
    (1 ≤ data.toNat → data.toNat ≤ 3 → exec (.kbdArgScancodeSet data) s = .next
      { State.deviceSends { w with kbc := { w.kbc with currentScancodeSet := data.setWidth 2 } } [0xFA] with reply := .done }) ∧
    (3 < data.toNat → exec (.kbdArgScancodeSet data) s = .next
      { State.deviceSends { w with log := s.log ++ [.kbdBadScancodeSet data] } [0xFF] with reply := .done })

/-- The commands without a reset (43_kbd_device.md R336 to R341, R344, R346, R330, 42_kbc.md R288, R295; D46, D50 to D53). -/
def Obligations.DeviceCommandsAnswer : Prop :=
  ∀ (data : Byte) (s : State), s.kbd.buf.length ≤ 16 →
    let u := s.deviceByte
    exec .kbdCmdSetLeds s = .next
      { State.deviceSends { u with kbd := { u.kbd with expectingLedWrite := true } } [0xFA] with reply := .done } ∧
    exec .kbdCmdSelectScancodeSet s = .next
      { State.deviceSends { u with kbd := { u.kbd with expectingScancodeSet := true } } [0xFA] with reply := .done } ∧
    exec .kbdCmdSetTypematic s = .next
      { State.deviceSends { u with kbd := { u.kbd with expectingTypematic := true } } [0xFA] with reply := .done } ∧
    exec .kbdCmdEnableScanning s = .next
      { State.deviceSends { u with kbd := { u.kbd with scanningEnabled := true } } [0xFA] with reply := .done } ∧
    exec .kbdCmdEcho s = .next { u.deviceSends [0xEE] with reply := .done } ∧
    exec .kbdCmdIdentify s = .next
      { u.deviceSends [0xFA, 0xAB, if s.kbc.scancodesTranslate then 0x41 else 0x83] with reply := .done } ∧
    exec .kbdCmdResend s = .next { u with reply := .done, log := s.log ++ [.kbdResendRequested] } ∧
    exec (.kbdCmdUnrecognized data) s = .next
      { State.deviceSends { u with log := s.log ++ [.kbdUnrecognizedCommand data] } [0xFE] with reply := .done }

/-- The commands with a full reset (43_kbd_device.md R331, R342, R343, R345; D46, D55, D56): earlier bytes are discarded, the
acknowledge survives, 0xFF adds the BAT result. -/
def Obligations.DeviceResetsDiscardAndAnswer : Prop :=
  ∀ s : State,
    let u := s.deviceByte
    let kbd : List Byte → Bool → Kbd := fun l on =>
      { s.kbd with
        buf := l, expectingTypematic := false, expectingLedWrite := false, expectingScancodeSet := false
        delay := 1, repeatRate := 0x0B, scanningEnabled := on }
    let kbc : Bool → Kbc := fun bat =>
      { u.kbc with
        currentScancodeSet := 2, batInProgress := bat
        timerPending := u.kbc.timerPending || !s.kbc.outb }
    exec .kbdCmdResetDisable s = .next
      { s with kbd := kbd [0xFA] false, kbc := kbc s.kbc.batInProgress, reply := .done } ∧
    exec .kbdCmdResetEnable s = .next
      { s with kbd := kbd [0xFA] true, kbc := kbc s.kbc.batInProgress, reply := .done } ∧
    exec .kbdCmdResetBat s = .next
      { s with kbd := kbd [0xFA, 0xAA] s.kbd.scanningEnabled, kbc := kbc true, reply := .done }

/-- `keyEvent` (43_kbd_device.md R347, R348, R330; D50, D51, D57): discarded while scanning is off; else the sequence of the
active set's table at the adjusted index, translated or raw, enters the device's buffer. The tables are free values
(notes/assumptions/14.md). -/
def Obligations.KeyEventSendsItsScancodes : Prop :=
  ∀ (key : BitVec 32) (type : KeyType) (side : KeySide) (s : State),
    let seq := Config.scancodeTable s.kbc.currentScancodeSet (key.toNat + Config.keyIndexAdjust key side) type
    (s.kbd.scanningEnabled = false → exec (.keyEvent key type side) s = .next { s with reply := .done }) ∧
    (s.kbd.scanningEnabled = true → s.kbd.buf.length ≤ 16 →
      exec (.keyEvent key type side) s = .next
        { s.deviceSends (if s.kbc.scancodesTranslate then translatedBytes false seq else seq) with reply := .done })
end

