-- ==== Sys2Proof/Laws/Bits.lean ====
section
/-! SUPPORT. Single bits of a register, and the numbers of channels. -/

namespace Sys2Proof.Machine

/-- Assigning one bit. -/
theorem getLsbD_setBit {n : Nat} (v : BitVec n) {i : Nat} (k : Nat) (b : Bool) (hi : i < n) :
    (setBit v i b).getLsbD k = if k = i then b else v.getLsbD k := by
  unfold setBit
  cases b with
  | true => by_cases h : k = i <;> simp [h, hi, eq_comm (a := i)]
  | false =>
    by_cases h : k = i
    · simp [h]
    · by_cases hk : k < n
      · simp [h, hk]
      · simp [h, BitVec.getLsbD_of_ge _ _ (Nat.le_of_not_lt hk)]

@[simp] theorem bitAt_setBitAt (v : Byte) (i k : Input) (b : Bool) :
    bitAt (setBitAt v i b) k = if k = i then b else bitAt v k := by
  simp only [bitAt, setBitAt, getLsbD_setBit v k.toNat b i.isLt, BitVec.toNat_inj]

theorem setBit_true_eq (v : Byte) (i : Nat) (_ : i < 8) : setBit v i true = v ||| (1#8 <<< i) := by
  rw [setBit, if_pos rfl, BitVec.twoPow_eq]

theorem setBit_false_eq (v : Byte) (i : Nat) (_ : i < 8) : setBit v i false = v &&& ~~~(1#8 <<< i) := by
  simp [setBit, BitVec.twoPow_eq]

theorem setBitAt_true (v : Byte) (i : Input) : setBitAt v i true = v ||| (1#8 <<< i.toNat) :=
  setBit_true_eq v _ i.isLt

theorem setBitAt_false (v : Byte) (i : Input) : setBitAt v i false = v &&& ~~~(1#8 <<< i.toNat) :=
  setBit_false_eq v _ i.isLt

theorem chanIndex_lt (j : Chan) : chanIndex j < 4 := by cases j <;> decide

theorem chanIndex_inj {j k : Chan} (h : chanIndex j = chanIndex k) : j = k := by
  cases j <;> cases k <;> first | rfl | exact absurd h (by decide)

theorem chanIndex_inj_iff {j k : Chan} : chanIndex j = chanIndex k ↔ j = k := ⟨chanIndex_inj, fun h => h ▸ rfl⟩

theorem chanIndex_chanOf (v : BitVec 2) : chanIndex (chanOf v) = v.toNat := by
  revert v; decide

/-- The request bits after one is assigned. -/
theorem getLsbD_setBit_request (v : Byte) (j k : Chan) (b : Bool) :
    (setBit v (4 + chanIndex j) b).getLsbD (4 + chanIndex k) = if k = j then b else v.getLsbD (4 + chanIndex k) := by
  rw [getLsbD_setBit _ _ _ (by have := chanIndex_lt j; omega)]
  simp only [Nat.add_left_cancel_iff, chanIndex_inj_iff]

/-- The request bits after a terminal-count bit is assigned. -/
theorem getLsbD_setBit_count (v : Byte) (j k : Chan) (b : Bool) :
    (setBit v (chanIndex j) b).getLsbD (4 + chanIndex k) = v.getLsbD (4 + chanIndex k) := by
  have := chanIndex_lt j
  rw [getLsbD_setBit _ _ _ (by omega), if_neg (by omega)]

end Sys2Proof.Machine
end

