-- ==== Sys2Proof/Laws/Memory.lean ====
section
/-! SUPPORT. Memory: every write keeps the canonical form, a read after a write of the same byte gives it, and every other
byte reads as before. -/

namespace Sys2Proof.Machine

theorem Memory.wfFrom_mono {lo lo' : Nat} {m : Memory} (hlo : lo ≤ lo') (h : m.wfFrom lo' = true) :
    m.wfFrom lo = true := by
  cases m with
  | nil => rfl
  | cons c m =>
    obtain ⟨k, v⟩ := c
    simp only [Memory.wfFrom, Bool.and_eq_true, decide_eq_true_eq, bne_iff_ne] at h ⊢
    exact ⟨⟨⟨by omega, h.1.1.2⟩, h.1.2⟩, h.2⟩

/-- Below the first cell every address reads as the fill. -/
theorem Memory.read_below {lo : Nat} {m : Memory} (h : m.wfFrom lo = true) {a : Nat} (ha : a < lo) :
    m.read a = Config.memoryFill := by
  induction m generalizing lo with
  | nil => rfl
  | cons c m ih =>
    obtain ⟨k, v⟩ := c
    simp only [Memory.wfFrom, Bool.and_eq_true, decide_eq_true_eq, bne_iff_ne] at h
    rw [Memory.read, if_neg (by omega : k ≠ a)]
    exact ih h.2 (by omega)

theorem Memory.write_wfFrom {lo : Nat} {m : Memory} {a : Nat} {b : Byte} (hlo : lo ≤ a) (ha : a < 2 ^ 24)
    (h : m.wfFrom lo = true) : (m.write a b).wfFrom lo = true := by
  induction m generalizing lo with
  | nil =>
    rw [Memory.write]
    split
    · rfl
    · next hb =>
      simp only [Memory.wfFrom, Bool.and_eq_true, decide_eq_true_eq, bne_iff_ne]
      exact ⟨⟨⟨hlo, ha⟩, hb⟩, trivial⟩
  | cons c m ih =>
    obtain ⟨k, v⟩ := c
    have h' := h
    simp only [Memory.wfFrom, Bool.and_eq_true, decide_eq_true_eq, bne_iff_ne] at h'
    obtain ⟨⟨⟨hk, hk'⟩, hv⟩, hm⟩ := h'
    rw [Memory.write]
    split
    · split
      · exact h
      · next hlt hb =>
        simp only [Memory.wfFrom, Bool.and_eq_true, decide_eq_true_eq, bne_iff_ne]
        exact ⟨⟨⟨hlo, ha⟩, hb⟩, ⟨⟨hlt, hk'⟩, hv⟩, hm⟩
    · split
      · next heq =>
        subst heq
        split
        · exact Memory.wfFrom_mono (by omega) hm
        · next hb =>
          simp only [Memory.wfFrom, Bool.and_eq_true, decide_eq_true_eq, bne_iff_ne]
          exact ⟨⟨⟨hlo, ha⟩, hb⟩, hm⟩
      · simp only [Memory.wfFrom, Bool.and_eq_true, decide_eq_true_eq, bne_iff_ne]
        exact ⟨⟨⟨hk, hk'⟩, hv⟩, ih (by omega) hm⟩

/-- A byte write keeps the canonical form. -/
theorem Memory.write_wf {m : Memory} (a : PhysAddr) (b : Byte) (h : m.wf = true) : (m.write a.toNat b).wf = true :=
  Memory.write_wfFrom (Nat.zero_le _) a.isLt h

/-- Every other byte reads as before. -/
theorem Memory.read_write_of_ne (m : Memory) {a k : Nat} (b : Byte) (hk : k ≠ a) :
    (m.write a b).read k = m.read k := by
  induction m with
  | nil => by_cases hb : b = Config.memoryFill <;> simp [Memory.write, Memory.read, hb, Ne.symm hk]
  | cons c m ih =>
    obtain ⟨k', v⟩ := c
    rw [Memory.write]
    split
    · split
      · rfl
      · rw [Memory.read, if_neg (Ne.symm hk)]
    · split
      · next heq =>
        subst heq
        split
        · rw [Memory.read, if_neg (Ne.symm hk)]
        · rw [Memory.read, if_neg (Ne.symm hk), Memory.read, if_neg (Ne.symm hk)]
      · rw [Memory.read, Memory.read, ih]

theorem Memory.read_write_self_from {lo : Nat} {m : Memory} {a : Nat} (b : Byte) (h : m.wfFrom lo = true) :
    (m.write a b).read a = b := by
  induction m generalizing lo with
  | nil => by_cases hb : b = Config.memoryFill <;> simp [Memory.write, Memory.read, hb]
  | cons c m ih =>
    obtain ⟨k, v⟩ := c
    have h' := h
    simp only [Memory.wfFrom, Bool.and_eq_true, decide_eq_true_eq, bne_iff_ne] at h'
    rw [Memory.write]
    split
    · next hlt =>
      split
      · next hb => rw [Memory.read, if_neg (by omega), Memory.read_below h'.2 (by omega), hb]
      · rw [Memory.read, if_pos rfl]
    · split
      · next heq =>
        subst heq
        split
        · next hb => rw [Memory.read_below h'.2 (by omega), hb]
        · rw [Memory.read, if_pos rfl]
      · next hne => rw [Memory.read, if_neg (Ne.symm hne), ih h'.2]

/-- A byte written reads back. -/
theorem Memory.read_write_self {m : Memory} (a : Nat) (b : Byte) (h : m.wf = true) : (m.write a b).read a = b :=
  Memory.read_write_self_from b h

/-- A unit write keeps the canonical form. -/
theorem Memory.writeUnit_wf {m : Memory} (d : DmaId) (a : PhysAddr) (v : Word) (h : m.wf = true) :
    (m.writeUnit d a v).wf = true := by
  cases d
  · exact Memory.write_wf _ _ h
  · exact Memory.write_wf _ _ (Memory.write_wf _ _ h)

/-- The bytes outside a unit read as before its write. -/
theorem Memory.read_writeUnit_of_ne (m : Memory) (d : DmaId) (a : PhysAddr) (v : Word) {k : Nat} (h : k ≠ a.toNat)
    (h' : d = .dma1 → k ≠ (a + 1).toNat) : (m.writeUnit d a v).read k = m.read k := by
  cases d
  · exact Memory.read_write_of_ne _ _ h
  · rw [Memory.writeUnit, Memory.writeWord, Memory.read_write_of_ne _ _ (h' rfl), Memory.read_write_of_ne _ _ h]

/-- The bytes of a unit read back after its write. -/
theorem Memory.read_writeUnit_self {m : Memory} (d : DmaId) (a : PhysAddr) (v : Word) (h : m.wf = true) :
    (m.writeUnit d a v).read a.toNat = v.extractLsb' 0 8 ∧
      (d = .dma1 → (m.writeUnit d a v).read (a + 1).toNat = v.extractLsb' 8 8) := by
  cases d
  · exact ⟨Memory.read_write_self _ _ h, fun h => by cases h⟩
  · have hne : a.toNat ≠ (a + 1).toNat := by
      intro he
      have : a = a + 1 := BitVec.eq_of_toNat_eq he
      bv_omega
    rw [Memory.writeUnit, Memory.writeWord]
    exact ⟨by rw [Memory.read_write_of_ne _ _ hne, Memory.read_write_self _ _ h],
      fun _ => Memory.read_write_self _ _ (Memory.write_wf _ _ h)⟩

/-- Reset's memory has the canonical form. -/
theorem Memory.reset_wf : State.reset.env.mem.wf = true := rfl

end Sys2Proof.Machine
end

