-- ==== Sys2Proof/Laws/State.lean ====
section
/-! SUPPORT. Reading a field after an update of the state, one lemma for each field and update, and the laws of the indexed
parts (four channels, extra pages, device supplies). -/

namespace Sys2Proof.Machine

/-! ## Four like things -/

@[simp] theorem Quad.get_set_self {α : Type} (q : Quad α) (j : Chan) (a : α) : (q.set j a).get j = a := by
  cases j <;> rfl

theorem Quad.get_set_of_ne {α : Type} (q : Quad α) {j k : Chan} (a : α) (h : k ≠ j) : (q.set j a).get k = q.get k := by
  cases j <;> cases k <;> first | rfl | exact absurd rfl h

@[simp] theorem Quad.get_set {α : Type} (q : Quad α) (j k : Chan) (a : α) :
    (q.set j a).get k = if k = j then a else q.get k := by
  cases j <;> cases k <;> rfl

@[simp] theorem Quad.get_all {α : Type} (a : α) (j : Chan) : (Quad.all a).get j = a := by cases j <;> rfl

theorem Quad.ext_get {α : Type} {q r : Quad α} (h : ∀ j, q.get j = r.get j) : q = r := by
  cases q; cases r
  simpa [Quad.get] using ⟨h .c0, h .c1, h .c2, h .c3⟩

/-! ## Extra page registers -/

@[simp] theorem ExtPages.get_set (x : ExtPages) (i k : ExtSlot) (b : Byte) :
    (x.set i b).get k = if k = i then b else x.get k := by
  cases i <;> cases k <;> rfl

/-! ## Device supplies -/

@[simp] theorem Env.setSupply_a20 (e : Env) (d : DmaId) (j : Chan) (l : List Word) :
    (e.setSupply d j l).a20 = e.a20 := by cases d <;> rfl

@[simp] theorem Env.setSupply_mem (e : Env) (d : DmaId) (j : Chan) (l : List Word) :
    (e.setSupply d j l).mem = e.mem := by cases d <;> rfl

@[simp] theorem Env.setSupply_mouse (e : Env) (d : DmaId) (j : Chan) (l : List Word) :
    (e.setSupply d j l).mouse = e.mouse := by cases d <;> rfl

@[simp] theorem Env.setSupply_freeUnits (e : Env) (d : DmaId) (j : Chan) (l : List Word) :
    (e.setSupply d j l).freeUnits = e.freeUnits := by cases d <;> rfl

@[simp] theorem Env.setSupply_granted (e : Env) (d : DmaId) (j : Chan) (l : List Word) :
    (e.setSupply d j l).granted = e.granted := by cases d <;> rfl

@[simp] theorem Env.setSupply_foreign (e : Env) (d : DmaId) (j : Chan) (l : List Word) :
    (e.setSupply d j l).foreign = e.foreign := by cases d <;> rfl

@[simp] theorem Env.supply_setSupply_self (e : Env) (d : DmaId) (j : Chan) (l : List Word) :
    (e.setSupply d j l).supply d j = l := by
  cases d <;> simp [Env.supply, Env.setSupply]

/-! ## `setPic` -/

@[simp] theorem State.setPic_dma0 (s : State) (c : PicId) (p : Pic) : (s.setPic c p).dma0 = s.dma0 := by cases c <;> rfl

@[simp] theorem State.setPic_dma1 (s : State) (c : PicId) (p : Pic) : (s.setPic c p).dma1 = s.dma1 := by cases c <;> rfl

@[simp] theorem State.setPic_hlda (s : State) (c : PicId) (p : Pic) : (s.setPic c p).hlda = s.hlda := by cases c <;> rfl

@[simp] theorem State.setPic_tc (s : State) (c : PicId) (p : Pic) : (s.setPic c p).tc = s.tc := by cases c <;> rfl

@[simp] theorem State.setPic_ext (s : State) (c : PicId) (p : Pic) : (s.setPic c p).ext = s.ext := by cases c <;> rfl

@[simp] theorem State.setPic_kbc (s : State) (c : PicId) (p : Pic) : (s.setPic c p).kbc = s.kbc := by cases c <;> rfl

@[simp] theorem State.setPic_kbd (s : State) (c : PicId) (p : Pic) : (s.setPic c p).kbd = s.kbd := by cases c <;> rfl

@[simp] theorem State.setPic_intr (s : State) (c : PicId) (p : Pic) : (s.setPic c p).intr = s.intr := by cases c <;> rfl

@[simp] theorem State.setPic_hrq (s : State) (c : PicId) (p : Pic) : (s.setPic c p).hrq = s.hrq := by cases c <;> rfl

@[simp] theorem State.setPic_env (s : State) (c : PicId) (p : Pic) : (s.setPic c p).env = s.env := by cases c <;> rfl

@[simp] theorem State.setPic_reply (s : State) (c : PicId) (p : Pic) : (s.setPic c p).reply = s.reply := by cases c <;> rfl

@[simp] theorem State.setPic_outputs (s : State) (c : PicId) (p : Pic) : (s.setPic c p).outputs = s.outputs := by cases c <;> rfl

@[simp] theorem State.setPic_log (s : State) (c : PicId) (p : Pic) : (s.setPic c p).log = s.log := by cases c <;> rfl

@[simp] theorem State.setPic_inbox (s : State) (c : PicId) (p : Pic) : (s.setPic c p).inbox = s.inbox := by cases c <;> rfl

@[simp] theorem State.setPic_master_master (s : State) (p : Pic) : (s.setPic .master p).master = p := rfl

@[simp] theorem State.setPic_master_slave (s : State) (p : Pic) : (s.setPic .master p).slave = s.slave := rfl

@[simp] theorem State.setPic_slave_master (s : State) (p : Pic) : (s.setPic .slave p).master = s.master := rfl

@[simp] theorem State.setPic_slave_slave (s : State) (p : Pic) : (s.setPic .slave p).slave = p := rfl

@[simp] theorem State.setPic_pic (s : State) (c e : PicId) (p : Pic) :
    (s.setPic c p).pic e = if e = c then p else s.pic e := by cases c <;> cases e <;> rfl

@[simp] theorem State.setPic_dma (s : State) (c : PicId) (p : Pic) (d : DmaId) : (s.setPic c p).dma d = s.dma d := by
  cases c <;> cases d <;> rfl

/-! ## `setDma` -/

@[simp] theorem State.setDma_master (s : State) (d : DmaId) (x : Dma) : (s.setDma d x).master = s.master := by cases d <;> rfl

@[simp] theorem State.setDma_slave (s : State) (d : DmaId) (x : Dma) : (s.setDma d x).slave = s.slave := by cases d <;> rfl

@[simp] theorem State.setDma_hlda (s : State) (d : DmaId) (x : Dma) : (s.setDma d x).hlda = s.hlda := by cases d <;> rfl

@[simp] theorem State.setDma_tc (s : State) (d : DmaId) (x : Dma) : (s.setDma d x).tc = s.tc := by cases d <;> rfl

@[simp] theorem State.setDma_ext (s : State) (d : DmaId) (x : Dma) : (s.setDma d x).ext = s.ext := by cases d <;> rfl

@[simp] theorem State.setDma_kbc (s : State) (d : DmaId) (x : Dma) : (s.setDma d x).kbc = s.kbc := by cases d <;> rfl

@[simp] theorem State.setDma_kbd (s : State) (d : DmaId) (x : Dma) : (s.setDma d x).kbd = s.kbd := by cases d <;> rfl

@[simp] theorem State.setDma_intr (s : State) (d : DmaId) (x : Dma) : (s.setDma d x).intr = s.intr := by cases d <;> rfl

@[simp] theorem State.setDma_hrq (s : State) (d : DmaId) (x : Dma) : (s.setDma d x).hrq = s.hrq := by cases d <;> rfl

@[simp] theorem State.setDma_env (s : State) (d : DmaId) (x : Dma) : (s.setDma d x).env = s.env := by cases d <;> rfl

@[simp] theorem State.setDma_reply (s : State) (d : DmaId) (x : Dma) : (s.setDma d x).reply = s.reply := by cases d <;> rfl

@[simp] theorem State.setDma_outputs (s : State) (d : DmaId) (x : Dma) : (s.setDma d x).outputs = s.outputs := by cases d <;> rfl

@[simp] theorem State.setDma_log (s : State) (d : DmaId) (x : Dma) : (s.setDma d x).log = s.log := by cases d <;> rfl

@[simp] theorem State.setDma_inbox (s : State) (d : DmaId) (x : Dma) : (s.setDma d x).inbox = s.inbox := by cases d <;> rfl

@[simp] theorem State.setDma_dma0_dma0 (s : State) (x : Dma) : (s.setDma .dma0 x).dma0 = x := rfl

@[simp] theorem State.setDma_dma0_dma1 (s : State) (x : Dma) : (s.setDma .dma0 x).dma1 = s.dma1 := rfl

@[simp] theorem State.setDma_dma1_dma0 (s : State) (x : Dma) : (s.setDma .dma1 x).dma0 = s.dma0 := rfl

@[simp] theorem State.setDma_dma1_dma1 (s : State) (x : Dma) : (s.setDma .dma1 x).dma1 = x := rfl

@[simp] theorem State.setDma_dma (s : State) (d e : DmaId) (x : Dma) :
    (s.setDma d x).dma e = if e = d then x else s.dma e := by cases d <;> cases e <;> rfl

@[simp] theorem State.setDma_pic (s : State) (d : DmaId) (x : Dma) (c : PicId) : (s.setDma d x).pic c = s.pic c := by
  cases c <;> cases d <;> rfl

/-! ## `setChan` -/

@[simp] theorem State.setChan_master (s : State) (d : DmaId) (j : Chan) (ch : Channel) : (s.setChan d j ch).master = s.master := by cases d <;> rfl

@[simp] theorem State.setChan_slave (s : State) (d : DmaId) (j : Chan) (ch : Channel) : (s.setChan d j ch).slave = s.slave := by cases d <;> rfl

@[simp] theorem State.setChan_hlda (s : State) (d : DmaId) (j : Chan) (ch : Channel) : (s.setChan d j ch).hlda = s.hlda := by cases d <;> rfl

@[simp] theorem State.setChan_tc (s : State) (d : DmaId) (j : Chan) (ch : Channel) : (s.setChan d j ch).tc = s.tc := by cases d <;> rfl

@[simp] theorem State.setChan_ext (s : State) (d : DmaId) (j : Chan) (ch : Channel) : (s.setChan d j ch).ext = s.ext := by cases d <;> rfl

@[simp] theorem State.setChan_kbc (s : State) (d : DmaId) (j : Chan) (ch : Channel) : (s.setChan d j ch).kbc = s.kbc := by cases d <;> rfl

@[simp] theorem State.setChan_kbd (s : State) (d : DmaId) (j : Chan) (ch : Channel) : (s.setChan d j ch).kbd = s.kbd := by cases d <;> rfl

@[simp] theorem State.setChan_intr (s : State) (d : DmaId) (j : Chan) (ch : Channel) : (s.setChan d j ch).intr = s.intr := by cases d <;> rfl

@[simp] theorem State.setChan_hrq (s : State) (d : DmaId) (j : Chan) (ch : Channel) : (s.setChan d j ch).hrq = s.hrq := by cases d <;> rfl

@[simp] theorem State.setChan_env (s : State) (d : DmaId) (j : Chan) (ch : Channel) : (s.setChan d j ch).env = s.env := by cases d <;> rfl

@[simp] theorem State.setChan_reply (s : State) (d : DmaId) (j : Chan) (ch : Channel) : (s.setChan d j ch).reply = s.reply := by cases d <;> rfl

@[simp] theorem State.setChan_outputs (s : State) (d : DmaId) (j : Chan) (ch : Channel) : (s.setChan d j ch).outputs = s.outputs := by cases d <;> rfl

@[simp] theorem State.setChan_log (s : State) (d : DmaId) (j : Chan) (ch : Channel) : (s.setChan d j ch).log = s.log := by cases d <;> rfl

@[simp] theorem State.setChan_inbox (s : State) (d : DmaId) (j : Chan) (ch : Channel) : (s.setChan d j ch).inbox = s.inbox := by cases d <;> rfl

@[simp] theorem State.setChan_chan (s : State) (d e : DmaId) (j k : Chan) (ch : Channel) :
    (s.setChan d j ch).chan e k = if e = d ∧ k = j then ch else s.chan e k := by
  cases d <;> cases e <;> cases j <;> cases k <;> rfl

@[simp] theorem State.setChan_pic (s : State) (d : DmaId) (j : Chan) (ch : Channel) (c : PicId) :
    (s.setChan d j ch).pic c = s.pic c := by cases c <;> cases d <;> rfl

/-! ## `note` -/

@[simp] theorem State.note_master (s : State) (k : LogKind) : (s.note k).master = s.master := rfl

@[simp] theorem State.note_slave (s : State) (k : LogKind) : (s.note k).slave = s.slave := rfl

@[simp] theorem State.note_dma0 (s : State) (k : LogKind) : (s.note k).dma0 = s.dma0 := rfl

@[simp] theorem State.note_dma1 (s : State) (k : LogKind) : (s.note k).dma1 = s.dma1 := rfl

@[simp] theorem State.note_hlda (s : State) (k : LogKind) : (s.note k).hlda = s.hlda := rfl

@[simp] theorem State.note_tc (s : State) (k : LogKind) : (s.note k).tc = s.tc := rfl

@[simp] theorem State.note_ext (s : State) (k : LogKind) : (s.note k).ext = s.ext := rfl

@[simp] theorem State.note_kbc (s : State) (k : LogKind) : (s.note k).kbc = s.kbc := rfl

@[simp] theorem State.note_kbd (s : State) (k : LogKind) : (s.note k).kbd = s.kbd := rfl

@[simp] theorem State.note_intr (s : State) (k : LogKind) : (s.note k).intr = s.intr := rfl

@[simp] theorem State.note_hrq (s : State) (k : LogKind) : (s.note k).hrq = s.hrq := rfl

@[simp] theorem State.note_env (s : State) (k : LogKind) : (s.note k).env = s.env := rfl

@[simp] theorem State.note_reply (s : State) (k : LogKind) : (s.note k).reply = s.reply := rfl

@[simp] theorem State.note_outputs (s : State) (k : LogKind) : (s.note k).outputs = s.outputs := rfl

@[simp] theorem State.note_inbox (s : State) (k : LogKind) : (s.note k).inbox = s.inbox := rfl

@[simp] theorem State.note_log (s : State) (k : LogKind) : (s.note k).log = s.log ++ [k] := rfl

@[simp] theorem State.note_pic (s : State) (k : LogKind) (c : PicId) : (s.note k).pic c = s.pic c := by cases c <;> rfl

@[simp] theorem State.note_dma (s : State) (k : LogKind) (d : DmaId) : (s.note k).dma d = s.dma d := by cases d <;> rfl

/-! ## `noteIf` -/

@[simp] theorem State.noteIf_master (s : State) (b : Bool) (k : LogKind) : (s.noteIf b k).master = s.master := by cases b <;> rfl

@[simp] theorem State.noteIf_slave (s : State) (b : Bool) (k : LogKind) : (s.noteIf b k).slave = s.slave := by cases b <;> rfl

@[simp] theorem State.noteIf_dma0 (s : State) (b : Bool) (k : LogKind) : (s.noteIf b k).dma0 = s.dma0 := by cases b <;> rfl

@[simp] theorem State.noteIf_dma1 (s : State) (b : Bool) (k : LogKind) : (s.noteIf b k).dma1 = s.dma1 := by cases b <;> rfl

@[simp] theorem State.noteIf_hlda (s : State) (b : Bool) (k : LogKind) : (s.noteIf b k).hlda = s.hlda := by cases b <;> rfl

@[simp] theorem State.noteIf_tc (s : State) (b : Bool) (k : LogKind) : (s.noteIf b k).tc = s.tc := by cases b <;> rfl

@[simp] theorem State.noteIf_ext (s : State) (b : Bool) (k : LogKind) : (s.noteIf b k).ext = s.ext := by cases b <;> rfl

@[simp] theorem State.noteIf_kbc (s : State) (b : Bool) (k : LogKind) : (s.noteIf b k).kbc = s.kbc := by cases b <;> rfl

@[simp] theorem State.noteIf_kbd (s : State) (b : Bool) (k : LogKind) : (s.noteIf b k).kbd = s.kbd := by cases b <;> rfl

@[simp] theorem State.noteIf_intr (s : State) (b : Bool) (k : LogKind) : (s.noteIf b k).intr = s.intr := by cases b <;> rfl

@[simp] theorem State.noteIf_hrq (s : State) (b : Bool) (k : LogKind) : (s.noteIf b k).hrq = s.hrq := by cases b <;> rfl

@[simp] theorem State.noteIf_env (s : State) (b : Bool) (k : LogKind) : (s.noteIf b k).env = s.env := by cases b <;> rfl

@[simp] theorem State.noteIf_reply (s : State) (b : Bool) (k : LogKind) : (s.noteIf b k).reply = s.reply := by cases b <;> rfl

@[simp] theorem State.noteIf_outputs (s : State) (b : Bool) (k : LogKind) : (s.noteIf b k).outputs = s.outputs := by cases b <;> rfl

@[simp] theorem State.noteIf_inbox (s : State) (b : Bool) (k : LogKind) : (s.noteIf b k).inbox = s.inbox := by cases b <;> rfl

@[simp] theorem State.noteIf_log (s : State) (b : Bool) (k : LogKind) :
    (s.noteIf b k).log = s.log ++ (if b then [k] else []) := by cases b <;> simp [State.noteIf]

@[simp] theorem State.noteIf_pic (s : State) (b : Bool) (k : LogKind) (c : PicId) : (s.noteIf b k).pic c = s.pic c := by
  cases b <;> cases c <;> rfl

@[simp] theorem State.noteIf_dma (s : State) (b : Bool) (k : LogKind) (d : DmaId) : (s.noteIf b k).dma d = s.dma d := by
  cases b <;> cases d <;> rfl

/-! ## `emit` -/

@[simp] theorem State.emit_master (s : State) (o : Output) : (s.emit o).master = s.master := rfl

@[simp] theorem State.emit_slave (s : State) (o : Output) : (s.emit o).slave = s.slave := rfl

@[simp] theorem State.emit_dma0 (s : State) (o : Output) : (s.emit o).dma0 = s.dma0 := rfl

@[simp] theorem State.emit_dma1 (s : State) (o : Output) : (s.emit o).dma1 = s.dma1 := rfl

@[simp] theorem State.emit_hlda (s : State) (o : Output) : (s.emit o).hlda = s.hlda := rfl

@[simp] theorem State.emit_tc (s : State) (o : Output) : (s.emit o).tc = s.tc := rfl

@[simp] theorem State.emit_ext (s : State) (o : Output) : (s.emit o).ext = s.ext := rfl

@[simp] theorem State.emit_kbc (s : State) (o : Output) : (s.emit o).kbc = s.kbc := rfl

@[simp] theorem State.emit_kbd (s : State) (o : Output) : (s.emit o).kbd = s.kbd := rfl

@[simp] theorem State.emit_intr (s : State) (o : Output) : (s.emit o).intr = s.intr := rfl

@[simp] theorem State.emit_hrq (s : State) (o : Output) : (s.emit o).hrq = s.hrq := rfl

@[simp] theorem State.emit_env (s : State) (o : Output) : (s.emit o).env = s.env := rfl

@[simp] theorem State.emit_reply (s : State) (o : Output) : (s.emit o).reply = s.reply := rfl

@[simp] theorem State.emit_log (s : State) (o : Output) : (s.emit o).log = s.log := rfl

@[simp] theorem State.emit_inbox (s : State) (o : Output) : (s.emit o).inbox = s.inbox := rfl

@[simp] theorem State.emit_outputs (s : State) (o : Output) : (s.emit o).outputs = s.outputs ++ [o] := rfl

@[simp] theorem State.emit_pic (s : State) (o : Output) (c : PicId) : (s.emit o).pic c = s.pic c := by cases c <;> rfl

@[simp] theorem State.emit_dma (s : State) (o : Output) (d : DmaId) : (s.emit o).dma d = s.dma d := by cases d <;> rfl

/-! ## `setKbc` -/

@[simp] theorem State.setKbc_master (s : State) (k : Kbc) : (s.setKbc k).master = s.master := rfl

@[simp] theorem State.setKbc_slave (s : State) (k : Kbc) : (s.setKbc k).slave = s.slave := rfl

@[simp] theorem State.setKbc_dma0 (s : State) (k : Kbc) : (s.setKbc k).dma0 = s.dma0 := rfl

@[simp] theorem State.setKbc_dma1 (s : State) (k : Kbc) : (s.setKbc k).dma1 = s.dma1 := rfl

@[simp] theorem State.setKbc_hlda (s : State) (k : Kbc) : (s.setKbc k).hlda = s.hlda := rfl

@[simp] theorem State.setKbc_tc (s : State) (k : Kbc) : (s.setKbc k).tc = s.tc := rfl

@[simp] theorem State.setKbc_ext (s : State) (k : Kbc) : (s.setKbc k).ext = s.ext := rfl

@[simp] theorem State.setKbc_kbd (s : State) (k : Kbc) : (s.setKbc k).kbd = s.kbd := rfl

@[simp] theorem State.setKbc_intr (s : State) (k : Kbc) : (s.setKbc k).intr = s.intr := rfl

@[simp] theorem State.setKbc_hrq (s : State) (k : Kbc) : (s.setKbc k).hrq = s.hrq := rfl

@[simp] theorem State.setKbc_env (s : State) (k : Kbc) : (s.setKbc k).env = s.env := rfl

@[simp] theorem State.setKbc_reply (s : State) (k : Kbc) : (s.setKbc k).reply = s.reply := rfl

@[simp] theorem State.setKbc_outputs (s : State) (k : Kbc) : (s.setKbc k).outputs = s.outputs := rfl

@[simp] theorem State.setKbc_log (s : State) (k : Kbc) : (s.setKbc k).log = s.log := rfl

@[simp] theorem State.setKbc_inbox (s : State) (k : Kbc) : (s.setKbc k).inbox = s.inbox := rfl

@[simp] theorem State.setKbc_kbc (s : State) (k : Kbc) : (s.setKbc k).kbc = k := rfl

end Sys2Proof.Machine
end

