-- ==== Sys2Proof/Laws/Dma.lean ====
section
/-! SUPPORT. What the DMA pair's shared operations can do: the footprint of each, the request bits and lines after
arbitration, and the rules of the pair that each one keeps. -/

namespace Sys2Proof.Machine

theorem State.dma_ext {s t : State} (h : ∀ d, s.dma d = t.dma d) : s.dma0 = t.dma0 ∧ s.dma1 = t.dma1 :=
  ⟨h .dma0, h .dma1⟩

/-! ## Footprints -/

/-- A DMA routine's footprint: the two controllers, HRQ and the log. -/
def DmaOnly (s t : State) : Prop := t = { s with dma0 := t.dma0, dma1 := t.dma1, hrq := t.hrq, log := t.log }

theorem DmaOnly.refl (s : State) : DmaOnly s s := rfl

theorem DmaOnly.trans {s t u : State} (h : DmaOnly s t) (h' : DmaOnly t u) : DmaOnly s u := by
  unfold DmaOnly at *
  rw [h', h]

theorem setDma_only (s : State) (d : DmaId) (x : Dma) : DmaOnly s (s.setDma d x) := by cases d <;> rfl

theorem noteIf_only (s : State) (b : Bool) (k : LogKind) : DmaOnly s (s.noteIf b k) := by cases b <;> rfl

theorem requestLine_only (d : DmaId) (j : Chan) (b : Bool) (s : State) : DmaOnly s (requestLine d j b s) := by
  unfold requestLine
  dsimp only
  split
  · exact .trans (.trans (setDma_only s d _) (noteIf_only _ _ _)) (noteIf_only _ _ _)
  · exact setDma_only s d _

theorem holdEval_only (d : DmaId) (s : State) : DmaOnly s (holdEval d s) := by
  cases d
  · exact .trans (requestLine_only .dma1 .c0 s.dma0.wantsHold s) rfl
  · rfl

theorem setRequest_only (d : DmaId) (j : Chan) (b : Bool) (s : State) : DmaOnly s (setRequest d j b s) :=
  (requestLine_only d j b s).trans (holdEval_only d _)

/-! ## Request lines and arbitration (41_dma.md R202, R204) -/

/-- The controller after its request line has moved. -/
def Dma.withRequest (x : Dma) (j : Chan) (b : Bool) : Dma :=
  { x with drq := x.drq.set j b, status := setBit x.status (4 + chanIndex j) b }

@[simp] theorem requestLine_dma (d e : DmaId) (j : Chan) (b : Bool) (s : State) :
    (requestLine d j b s).dma e = if e = d then (s.dma d).withRequest j b else s.dma e := by
  unfold requestLine
  dsimp only
  split <;> simp [Dma.withRequest]

@[simp] theorem requestLine_hrq (d : DmaId) (j : Chan) (b : Bool) (s : State) :
    (requestLine d j b s).hrq = s.hrq := by
  unfold requestLine
  dsimp only
  split <;> simp

@[simp] theorem Dma.requested_withRequest (x : Dma) (j k : Chan) (b : Bool) :
    (x.withRequest j b).requested k = if k = j then b else x.requested k :=
  getLsbD_setBit_request x.status j k b

/-- Arbitration of controller 1 moves HRQ alone. -/
@[simp] theorem holdEval_dma1_dma (s : State) (e : DmaId) : (holdEval .dma1 s).dma e = s.dma e := by cases e <;> rfl

@[simp] theorem holdEval_dma1_hrq (s : State) : (holdEval .dma1 s).hrq = s.dma1.wantsHold := rfl

/-- Arbitration of controller 0 moves the cascade channel's request of controller 1. -/
@[simp] theorem holdEval_dma0_dma (s : State) (e : DmaId) :
    (holdEval .dma0 s).dma e = if e = .dma1 then s.dma1.withRequest .c0 s.dma0.wantsHold else s.dma e := by
  have h : (holdEval .dma0 s).dma e = (requestLine .dma1 .c0 s.dma0.wantsHold s).dma e := by cases e <;> rfl
  rw [h, requestLine_dma]
  rfl

theorem holdEval_dma0_hrq (s : State) :
    (holdEval .dma0 s).hrq = (s.dma1.withRequest .c0 s.dma0.wantsHold).wantsHold := by
  have h : (requestLine .dma1 .c0 s.dma0.wantsHold s).dma .dma1 = s.dma1.withRequest .c0 s.dma0.wantsHold := by
    rw [requestLine_dma, if_pos rfl]; rfl
  exact congrArg Dma.wantsHold h

/-- `wantsHold` is the condition of R202. -/
theorem Dma.wantsHold_iff (x : Dma) : x.wantsHold = true ↔ x.Wants := by
  simp only [Dma.wantsHold, Dma.qualifies, Dma.requested, Dma.Wants, Bool.and_eq_true, Bool.or_eq_true,
    Bool.not_eq_true', or_assoc]
  refine and_congr_right fun _ => ⟨?_, ?_⟩
  · rintro (h | h | h | h)
    exacts [⟨_, h⟩, ⟨_, h⟩, ⟨_, h⟩, ⟨_, h⟩]
  · rintro ⟨j, h⟩
    cases j
    exacts [.inl h, .inr (.inl h), .inr (.inr (.inl h)), .inr (.inr (.inr h))]

theorem Dma.wantsHold_eq_false_iff (x : Dma) : x.wantsHold = false ↔ ¬x.Wants := by
  rw [← Dma.wantsHold_iff, Bool.not_eq_true]

/-- After any arbitration HRQ is controller 1's want, and after controller 0's the cascade request is controller 0's want
(41_dma.md R227). -/
theorem holdEval_hrq (d : DmaId) (s : State) : (holdEval d s).hrq = (holdEval d s).dma1.wantsHold := by
  cases d
  · have h : (holdEval .dma0 s).dma1 = (holdEval .dma0 s).dma .dma1 := rfl
    rw [holdEval_dma0_hrq, h, holdEval_dma0_dma, if_pos rfl]
  · rfl

theorem holdEval_cascade (s : State) :
    (holdEval .dma0 s).dma1.requested .c0 = (holdEval .dma0 s).dma0.wantsHold := by
  have h : (holdEval .dma0 s).dma1 = (holdEval .dma0 s).dma .dma1 := rfl
  have h' : (holdEval .dma0 s).dma0 = (holdEval .dma0 s).dma .dma0 := rfl
  rw [h, h', holdEval_dma0_dma, holdEval_dma0_dma, if_pos rfl, if_neg (by decide), Dma.requested_withRequest, if_pos rfl]
  rfl

/-! ## Selection (41_dma.md R203) -/

/-- `select` finds the lowest-numbered channel that qualifies. -/
theorem Dma.select_eq_some_iff (x : Dma) (j : Chan) : x.select = some j ↔ x.Selects j := by
  have e : ∀ k, (x.qualifies k = true) = (x.status.getLsbD (4 + chanIndex k) = true ∧ x.mask.get k = false) := by
    intro k; simp [Dma.qualifies, Dma.requested]
  simp only [Dma.Selects, ← e, Bool.not_eq_true]
  unfold Dma.select
  cases h0 : x.qualifies .c0 <;> cases h1 : x.qualifies .c1 <;> cases h2 : x.qualifies .c2 <;>
    cases h3 : x.qualifies .c3 <;> cases j <;> simp [List.find?, h0, h1, h2, h3, chanIndex] <;>
    first
    | (intro k hk; cases k <;> simp_all)
    | exact ⟨.c0, by decide, h0⟩ | exact ⟨.c1, by decide, h1⟩ | exact ⟨.c2, by decide, h2⟩

theorem Dma.select_eq_none_iff (x : Dma) : x.select = none ↔ ∀ j, ¬x.Selects j := by
  constructor
  · intro h j hj
    rw [(x.select_eq_some_iff j).mpr hj] at h
    cases h
  · intro h
    cases hs : x.select with
    | none => rfl
    | some j => exact absurd ((x.select_eq_some_iff j).mp hs) (h j)

/-! ## The rules of the pair -/

/-- The part of the machine's invariant that is about one DMA controller. -/
structure Dma.Rules (x : Dma) : Prop where
  disabledFlag : x.disabled = x.command.getLsbD 2
  requestHeld : ∀ j, x.requested j = true → x.drq.get j = true
  oneDack : x.OneDack

/-- The part of the machine's invariant that is about the DMA pair. -/
structure State.DmaRules (s : State) : Prop where
  rules : ∀ d, (s.dma d).Rules
  cascadeReserved : (s.dma1.chan.get .c0).inUse = true ∧ s.dma1.handler.get .c0 = some noopHandler

/-- A controller replaced by one that follows the rules and keeps the cascade reservation. -/
theorem State.DmaRules.setDma {s : State} (h : s.DmaRules) (d : DmaId) (x : Dma) (hx : x.Rules)
    (hc : d = .dma1 → (x.chan.get .c0).inUse = (s.dma1.chan.get .c0).inUse ∧
      x.handler.get .c0 = s.dma1.handler.get .c0) : (s.setDma d x).DmaRules := by
  refine ⟨fun e => ?_, ?_⟩
  · rw [State.setDma_dma]
    split
    · exact hx
    · exact h.rules e
  · cases d
    · exact h.cascadeReserved
    · simpa [(hc rfl).1, (hc rfl).2] using h.cascadeReserved

/-- The rules are about the two controllers alone. -/
theorem State.DmaRules.congr {s t : State} (h : s.DmaRules) (h0 : t.dma0 = s.dma0) (h1 : t.dma1 = s.dma1) :
    t.DmaRules := by
  refine ⟨fun e => ?_, ?_⟩
  · cases e
    · rw [show t.dma .dma0 = s.dma .dma0 from h0]; exact h.rules .dma0
    · rw [show t.dma .dma1 = s.dma .dma1 from h1]; exact h.rules .dma1
  · rw [h1]; exact h.cascadeReserved

theorem Dma.Rules.withRequest {x : Dma} (h : x.Rules) (j : Chan) (b : Bool) : (x.withRequest j b).Rules := by
  refine ⟨h.disabledFlag, fun k => ?_, h.oneDack⟩
  rw [Dma.requested_withRequest]
  simp only [Dma.withRequest, Quad.get_set]
  split
  · exact id
  · exact h.requestHeld k

theorem State.DmaRules.requestLine {s : State} (h : s.DmaRules) (d : DmaId) (j : Chan) (b : Bool) :
    (requestLine d j b s).DmaRules := by
  have h' := h.setDma d ((s.dma d).withRequest j b) ((h.rules d).withRequest j b) (by rintro rfl; exact ⟨rfl, rfl⟩)
  have e := State.dma_ext (s := Machine.requestLine d j b s) (t := s.setDma d ((s.dma d).withRequest j b))
    (fun e => by rw [requestLine_dma, State.setDma_dma])
  exact h'.congr e.1 e.2

theorem State.DmaRules.holdEval {s : State} (h : s.DmaRules) (d : DmaId) : (holdEval d s).DmaRules := by
  cases d
  · exact (h.requestLine .dma1 .c0 s.dma0.wantsHold).congr rfl rfl
  · exact h.congr rfl rfl

theorem State.DmaRules.setRequest {s : State} (h : s.DmaRules) (d : DmaId) (j : Chan) (b : Bool) :
    (setRequest d j b s).DmaRules := (h.requestLine d j b).holdEval d

/-- A controller replaced by one with the same command, disabled flag, request bits, request lines and acknowledges. -/
theorem Dma.Rules.of_eq {x y : Dma} (h : x.Rules) (hc : y.command = x.command) (hd : y.disabled = x.disabled)
    (hs : ∀ j, y.requested j = true → x.requested j = true) (hq : y.drq = x.drq)
    (hk : y.dack = x.dack) : y.Rules :=
  ⟨by rw [hc, hd]; exact h.disabledFlag, fun j hj => by rw [hq]; exact h.requestHeld j (hs j hj), by
    unfold Dma.OneDack; rw [hk]; exact h.oneDack⟩

/-! ## Acknowledges (10_state.md R34) -/

/-- Acknowledging a channel leaves it the only one of its controller. -/
@[simp] theorem Dma.acknowledge_get (x : Dma) (j k : Chan) : (x.acknowledge j).dack.get k = decide (k = j) := by
  cases j <;> cases k <;> rfl

theorem Dma.acknowledge_oneDack (x : Dma) (j : Chan) : (x.acknowledge j).OneDack := by
  intro k l hk hl
  simp only [Dma.acknowledge_get, decide_eq_true_eq] at hk hl
  rw [hk, hl]

/-- Withdrawing an acknowledge keeps the rule. -/
theorem Dma.OneDack.withdraw {x : Dma} (h : x.OneDack) (j : Chan) :
    ({ x with dack := x.dack.set j false } : Dma).OneDack := by
  intro k l hk hl
  simp only [Quad.get_set] at hk hl
  split at hk
  · cases hk
  · split at hl
    · cases hl
    · exact h k l hk hl

/-- A controller that follows the rules still does so when a channel is acknowledged. -/
theorem Dma.Rules.acknowledge {x : Dma} (h : x.Rules) (j : Chan) : (x.acknowledge j).Rules :=
  ⟨h.disabledFlag, h.requestHeld, x.acknowledge_oneDack j⟩

theorem Dma.Rules.withdraw {x : Dma} (h : x.Rules) (j : Chan) :
    Dma.Rules { x with dack := x.dack.set j false } :=
  ⟨h.disabledFlag, h.requestHeld, h.oneDack.withdraw j⟩

/-! ## The transfer (41_dma.md R223 to R226) -/

/-- The data part changes the collaborators, the outputs and the log. -/
theorem transferData_only (d : DmaId) (j : Chan) (t : TransferType) (a : PhysAddr) (s : State) :
    transferData d j t a s = { s with
      env := (transferData d j t a s).env, outputs := (transferData d j t a s).outputs
      log := (transferData d j t a s).log } := by
  cases t <;> unfold transferData devToMem <;> dsimp only [State.emit, State.note]
  · split
    · split <;> rfl
    · rfl
  · split
    · split <;> rfl
    · rfl
  · split <;> rfl

/-- The data part leaves the gate, the ports and the mouse. -/
theorem transferData_env (d : DmaId) (j : Chan) (t : TransferType) (a : PhysAddr) (s : State) :
    (transferData d j t a s).env.a20 = s.env.a20 ∧ (transferData d j t a s).env.mouse = s.env.mouse ∧
    (transferData d j t a s).env.granted = s.env.granted ∧ (transferData d j t a s).env.foreign = s.env.foreign := by
  cases t <;> unfold transferData devToMem <;> dsimp only [State.emit, State.note]
  · split
    · split <;> simp
    · simp
  · split
    · split <;> simp
    · simp
  · split <;> simp
  · simp

/-- The data part stores one unit at the transfer's address, or nothing. -/
theorem transferData_mem (d : DmaId) (j : Chan) (t : TransferType) (a : PhysAddr) (s : State) :
    (transferData d j t a s).env.mem = s.env.mem ∨
    t = .writeToMemory ∧ (∃ h, (s.dma d).handler.get j = some h ∧ h.devToMem = true) ∧
      ∃ v, (transferData d j t a s).env.mem = s.env.mem.writeUnit d a v ∧
        ∀ w rest, s.env.supply d j = w :: rest → v = w := by
  have key : ∀ h : Option Handler, (h.getD noopHandler).devToMem = true → ∃ k, h = some k ∧ k.devToMem = true := by
    intro h hh
    cases h with
    | none => cases hh
    | some k => exact ⟨k, rfl, hh⟩
  cases t <;> unfold transferData devToMem <;> dsimp only [State.emit, State.note]
  · left
    split
    · split <;> simp
    · rfl
  · split
    · next hh =>
      right
      refine ⟨rfl, key _ hh, ?_⟩
      split
      · next v rest hs =>
        refine ⟨v, by simp, fun w r hw => ?_⟩
        rw [hs] at hw
        exact (List.cons.inj hw).1
      · next hs => exact ⟨_, rfl, fun w r hw => by rw [hs] at hw; cases hw⟩
    · left; rfl
  · left
    split <;> rfl
  · left; rfl

/-- The data part keeps the canonical form of memory. -/
theorem transferData_wf (d : DmaId) (j : Chan) (t : TransferType) (a : PhysAddr) (s : State)
    (h : s.env.mem.wf = true) : (transferData d j t a s).env.mem.wf = true := by
  obtain e | ⟨-, -, v, e, -⟩ := transferData_mem d j t a s <;> rw [e]
  · exact h
  · exact Memory.writeUnit_wf _ _ _ h

/-- What a bus grant changes. -/
theorem busHold_cases (s : State) :
    (s.dma1.select = none ∧ busHold s = { s with hlda := true }) ∨
    (s.dma1.select = some .c0 ∧ s.dma0.select = none ∧
      busHold s = { s with hlda := true, dma1 := s.dma1.acknowledge .c0 }) ∨
    (∃ j, s.dma1.select = some .c0 ∧ s.dma0.select = some j ∧
      busHold s = transfer .dma0 j { s with hlda := true, dma1 := s.dma1.acknowledge .c0 }) ∨
    ∃ j, j ≠ .c0 ∧ s.dma1.select = some j ∧ busHold s = transfer .dma1 j { s with hlda := true } := by
  unfold busHold
  dsimp only
  cases h : s.dma1.select with
  | none => exact .inl ⟨rfl, rfl⟩
  | some j =>
    cases j with
    | c0 =>
      cases h' : s.dma0.select with
      | none => exact .inr (.inl ⟨rfl, rfl, rfl⟩)
      | some j => exact .inr (.inr (.inl ⟨j, rfl, rfl, rfl⟩))
    | c1 => exact .inr (.inr (.inr ⟨.c1, by decide, rfl, rfl⟩))
    | c2 => exact .inr (.inr (.inr ⟨.c2, by decide, rfl, rfl⟩))
    | c3 => exact .inr (.inr (.inr ⟨.c3, by decide, rfl, rfl⟩))

/-! ### Acknowledges: every part of a grant keeps at most one in each controller (10_state.md R34) -/

theorem transferRegisters_oneDack (d : DmaId) (j : Chan) (s : State) (h : ∀ e, (s.dma e).OneDack) (e : DmaId) :
    ((transferRegisters d j s).dma e).OneDack := by
  have hd : ((transferRegisters d j s).dma e).dack =
      if e = d then ((s.dma d).acknowledge j).dack else (s.dma e).dack := by
    unfold transferRegisters
    dsimp only
    split <;> cases d <;> cases e <;> rfl
  unfold Dma.OneDack
  rw [hd]
  split
  · exact (s.dma d).acknowledge_oneDack j
  · exact h e

theorem transferRelease_oneDack (d : DmaId) (j : Chan) (s : State) (h : ∀ e, (s.dma e).OneDack) (e : DmaId) :
    ((transferRelease d j s).dma e).OneDack := by
  cases d <;> cases e
  · exact (h .dma0).withdraw j
  · exact (h .dma1).withdraw .c0
  · exact h .dma0
  · exact (h .dma1).withdraw j

theorem transfer_oneDack (d : DmaId) (j : Chan) (s : State) (h : ∀ e, (s.dma e).OneDack) (e : DmaId) :
    ((transfer d j s).dma e).OneDack := by
  have hr := transferRegisters_oneDack d j s h
  unfold transfer
  dsimp only
  split
  · refine transferRelease_oneDack d j _ (fun e => ?_) e
    rw [transferData_only]
    have := hr e
    cases e <;> exact this
  · rw [transferData_only]
    have := hr e
    cases e <;> exact this

theorem busHold_oneDack (s : State) (h : ∀ e, (s.dma e).OneDack) (e : DmaId) : ((busHold s).dma e).OneDack := by
  have hc : ∀ d, (State.dma { s with hlda := true, dma1 := s.dma1.acknowledge .c0 } d).OneDack := by
    intro d
    cases d
    · exact h .dma0
    · exact s.dma1.acknowledge_oneDack .c0
  obtain ⟨-, q⟩ | ⟨-, -, q⟩ | ⟨j, -, -, q⟩ | ⟨j, -, -, q⟩ := busHold_cases s <;> rw [q]
  · cases e <;> first | exact h .dma0 | exact h .dma1
  · exact hc e
  · exact transfer_oneDack .dma0 j _ hc e
  · exact transfer_oneDack .dma1 j _ (fun d => by cases d <;> first | exact h .dma0 | exact h .dma1) e

theorem Channel.stepped_inUse (ch : Channel) : ch.stepped.inUse = ch.inUse := by
  unfold Channel.stepped
  split <;> rfl

end Sys2Proof.Machine
end

