-- ==== Sys2Proof/Laws/Pic.lean ====
section
/-! SUPPORT. What the PIC pair's shared operations can do: each one's cases, and what it leaves as it was. -/

namespace Sys2Proof.Machine

/-! ## The priority order -/

/-- Every input stands in the circle. -/
theorem mem_circle (hp i : Input) : i ∈ circle hp := by
  revert hp i; decide

/-- The circle lists the inputs by their place in the priority order. -/
theorem circle_sorted (p : Pic) : (circle p.highest).Pairwise fun i k => p.position i < p.position k := by
  simp only [Pic.position, Pic.highest]
  generalize p.lowestPriority = l
  revert l; decide

theorem Pic.position_injective (p : Pic) {i k : Input} (h : p.position i = p.position k) : i = k := by
  simp only [Pic.position] at h
  replace h := BitVec.eq_of_toNat_eq h
  revert h
  generalize p.lowestPriority + 1 = l
  revert i k l
  decide

/-! ## Service (40_pic.md R140, R141) and the request pins (R143, R144) -/

/-- `service(0)` does nothing or latches an input and raises INTR. -/
theorem serviceMaster_cases (s : State) :
    (s.master.latch = none ∧ serviceMaster s = s) ∨
    ∃ i, s.master.latch = some i ∧ serviceMaster s = { s with master := s.master.latched i, intr := true } := by
  unfold serviceMaster
  cases h : s.master.latch with
  | none => exact .inl ⟨rfl, rfl⟩
  | some i => exact .inr ⟨i, rfl, rfl⟩

/-- `service(1)` does nothing or latches an input and runs `setIRQ(2)`. -/
theorem serviceSlave_cases (s : State) :
    (s.slave.latch = none ∧ serviceSlave s = s) ∨
    ∃ i, s.slave.latch = some i ∧ serviceSlave s = setIrqMaster 2 { s with slave := s.slave.latched i } := by
  unfold serviceSlave
  cases h : s.slave.latch with
  | none => exact .inl ⟨rfl, rfl⟩
  | some i => exact .inr ⟨i, rfl, rfl⟩

/-- A PIC routine's footprint: the two controllers and INTR may change, the vector bases do not, and INTR follows the
master's latched request if it did before. -/
def PicOnly (s t : State) : Prop :=
  t = { s with master := t.master, slave := t.slave, intr := t.intr } ∧
    t.master.offset = s.master.offset ∧ t.slave.offset = s.slave.offset ∧
    (s.intr = s.master.intRequestPin → t.intr = t.master.intRequestPin)

theorem PicOnly.refl (s : State) : PicOnly s s := ⟨rfl, rfl, rfl, id⟩

theorem PicOnly.trans {s t u : State} (h : PicOnly s t) (h' : PicOnly t u) : PicOnly s u := by
  obtain ⟨e, m, l, r⟩ := h
  obtain ⟨e', m', l', r'⟩ := h'
  refine ⟨?_, m'.trans m, l'.trans l, r' ∘ r⟩
  rw [e', e]

theorem serviceMaster_only (s : State) : PicOnly s (serviceMaster s) := by
  obtain ⟨-, h⟩ | ⟨i, -, h⟩ := serviceMaster_cases s <;> rw [h]
  · exact .refl s
  · exact ⟨rfl, rfl, rfl, fun _ => rfl⟩

/-- A new master whose vector base and latched request are the old one's. -/
theorem PicOnly.master (s : State) (p : Pic) (ho : p.offset = s.master.offset)
    (hr : p.intRequestPin = s.master.intRequestPin) : PicOnly s { s with master := p } :=
  ⟨rfl, ho, rfl, fun h => h.trans hr.symm⟩

/-- A new slave whose vector base is the old one's. -/
theorem PicOnly.slave (s : State) (p : Pic) (ho : p.offset = s.slave.offset) : PicOnly s { s with slave := p } :=
  ⟨rfl, rfl, ho, id⟩

/-- A new controller whose vector base and latched request are the old one's. -/
theorem PicOnly.setPic (s : State) (c : PicId) (p : Pic) (ho : p.offset = (s.pic c).offset)
    (hr : p.intRequestPin = (s.pic c).intRequestPin) : PicOnly s (s.setPic c p) := by
  cases c
  · exact .master s p ho hr
  · exact .slave s p ho

theorem setIrqMaster_only (i : Input) (s : State) : PicOnly s (setIrqMaster i s) := by
  unfold setIrqMaster
  split
  · exact .refl s
  · exact PicOnly.trans (.master s (s.master.raised i) rfl rfl) (serviceMaster_only _)

theorem serviceSlave_only (s : State) : PicOnly s (serviceSlave s) := by
  obtain ⟨-, h⟩ | ⟨i, -, h⟩ := serviceSlave_cases s <;> rw [h]
  · exact .refl s
  · exact PicOnly.trans (.slave s (s.slave.latched i) rfl) (setIrqMaster_only _ _)

theorem setIrqSlave_only (i : Input) (s : State) : PicOnly s (setIrqSlave i s) := by
  unfold setIrqSlave
  split
  · exact .refl s
  · exact PicOnly.trans (.slave s (s.slave.raised i) rfl) (serviceSlave_only _)

/-- `service(c)` changes the PIC pair and INTR. -/
theorem service_only (c : PicId) (s : State) : PicOnly s (service c s) := by
  cases c
  · exact serviceMaster_only s
  · exact serviceSlave_only s

/-- `setIRQ(n)` changes the PIC pair and INTR. -/
theorem setIrq_only (n : BitVec 4) (s : State) : PicOnly s (setIrq n s) := by
  unfold setIrq
  split
  · exact setIrqMaster_only _ s
  · exact setIrqSlave_only _ s

/-- `clearIRQ(n)` does nothing, or lowers one controller's pin and request bit. -/
theorem clearIrq_cases (n : BitVec 4) (s : State) :
    clearIrq n s = s ∨
    clearIrq n s = s.setPic (irqController n) { s.pic (irqController n) with
      irqPin := setBitAt (s.pic (irqController n)).irqPin (irqInput n) false
      irr := setBitAt (s.pic (irqController n)).irr (irqInput n) false } := by
  unfold clearIrq
  dsimp only
  split
  · exact .inr rfl
  · exact .inl rfl

theorem clearIrq_only (n : BitVec 4) (s : State) : PicOnly s (clearIrq n s) := by
  obtain h | h := clearIrq_cases n s <;> rw [h]
  · exact .refl s
  · exact .setPic _ _ _ rfl rfl

/-- `clearIRQ(n)` changes request bits and pins alone. -/
theorem clearIrq_frame (n : BitVec 4) (s : State) :
    clearIrq n s = { s with
      master := { s.master with irr := (clearIrq n s).master.irr, irqPin := (clearIrq n s).master.irqPin }
      slave := { s.slave with irr := (clearIrq n s).slave.irr, irqPin := (clearIrq n s).slave.irqPin } } := by
  obtain h | h := clearIrq_cases n s <;> rw [h]
  cases irqController n <;> rfl

/-- `clear_highest(c)` changes the in-service register alone. -/
theorem Pic.clearHighest_frame (p : Pic) : p.clearHighest = { p with isr := p.clearHighest.isr } := by
  unfold Pic.clearHighest
  split <;> rfl

/-! ## Command words, polls, acknowledge -/

theorem acknowledgedMaster_only (i : Input) (s : State) : PicOnly s { s with master := s.master.acknowledged i } :=
  .master s _ rfl rfl

theorem acknowledgedSlave_only (i : Input) (s : State) : PicOnly s { s with slave := s.slave.acknowledged i } :=
  .slave s _ rfl

theorem cascadeHead_only (s : State) : PicOnly s (cascadeHead s) := ⟨rfl, rfl, rfl, id⟩

/-- What `interruptAcknowledge()` changes (60_exceptions.md R385): the PIC pair and INTR. -/
theorem acknowledge_only (s : State) : PicOnly s (acknowledge s).2 := by
  have h0 : PicOnly s { s with intr := false, master := { s.master with intRequestPin := false } } :=
    ⟨rfl, rfl, rfl, fun _ => rfl⟩
  unfold acknowledge
  dsimp only
  split
  · exact h0
  · split
    · exact .trans (.trans h0 (acknowledgedMaster_only _ _)) (serviceMaster_only _)
    · have h1 := PicOnly.trans (.trans h0 (acknowledgedMaster_only s.master.currentIrq _)) (cascadeHead_only _)
      split
      · exact h1
      · refine .trans (.trans ?_ (serviceSlave_only _)) (serviceMaster_only _)
        exact h1.trans (acknowledgedSlave_only _ _)

end Sys2Proof.Machine
end

