-- ==== Sys2Proof/Laws/Kbc.lean ====
section
/-! SUPPORT. What the keyboard controller's and the keyboard device's shared operations can do: closed forms, cases, and the
rules of the two that each one keeps. -/

namespace Sys2Proof.Machine

/-! ## The device's buffer (43_kbd_device.md R330, R348) -/

/-- Scheduling a re-poll on a condition. -/
theorem activateTimer_if (p : Bool) (s : State) :
    (if p then activateTimer s else s) =
      { s with kbc := { s.kbc with timerPending := s.kbc.timerPending || p } } := by
  cases p <;> simp [activateTimer]

@[simp] theorem State.deviceSends_nil (s : State) (h : s.kbd.buf.length ≤ 16) : s.deviceSends [] = s := by
  have e : s.kbd.buf.length - 16 = 0 := by omega
  simp [State.deviceSends, List.take_of_length_le h, e]

/-- An enqueue is a reply of one byte. -/
theorem kbdEnqueue_eq (b : Byte) (s : State) (h : s.kbd.buf.length ≤ 16) : kbdEnqueue b s = s.deviceSends [b] := by
  unfold kbdEnqueue
  split
  · next hf =>
    have hl : s.kbd.buf.length = 16 := by simp only [Config.kbdBufferSlots] at hf; omega
    simp [State.deviceSends, State.note, hl]
  · next hf =>
    have hl : s.kbd.buf.length < 16 := by simp only [Config.kbdBufferSlots] at hf; omega
    have ht : (s.kbd.buf ++ [b]).take 16 = s.kbd.buf ++ [b] := List.take_of_length_le (by simp; omega)
    have e : s.kbd.buf.length + 1 - 16 = 0 := by omega
    dsimp only
    rw [activateTimer_if]
    simp [State.deviceSends, ht, hl, e]

theorem State.deviceSends_length (s : State) (l : List Byte) : (s.deviceSends l).kbd.buf.length ≤ 16 := by
  simp [State.deviceSends]

/-- Two replies are one longer reply. -/
theorem State.deviceSends_append (s : State) (l r : List Byte) (h : s.kbd.buf.length ≤ 16) :
    (s.deviceSends l).deviceSends r = s.deviceSends (l ++ r) := by
  have hb : ((s.kbd.buf ++ l).take 16 ++ r).take 16 = (s.kbd.buf ++ (l ++ r)).take 16 := by
    simp only [List.take_append, List.length_take, List.take_take, List.append_assoc, Nat.min_self]
    have e : 16 - (min 16 s.kbd.buf.length) - min (16 - s.kbd.buf.length) l.length =
        16 - s.kbd.buf.length - l.length := by omega
    simp [e, Nat.sub_sub]
    omega
  have hl : s.kbd.buf.length + l.length - 16 + (min 16 (s.kbd.buf.length + l.length) + r.length - 16) =
      s.kbd.buf.length + (l.length + r.length) - 16 := by omega
  have hd : (decide (min 16 (s.kbd.buf.length + l.length) < 16)) = decide (s.kbd.buf.length + l.length < 16) := by
    simp
  simp only [State.deviceSends, hb, List.append_assoc, List.replicate_append_replicate, List.length_append,
    List.length_take, hl, hd]
  congr 2
  cases s.kbc.timerPending <;> cases s.kbc.outb <;> cases s.kbc.kbdClockEnabled <;> simp
  cases l with
  | nil => simp
  | cons b l =>
    cases r with
    | nil => simp
    | cons c r =>
      simp
      omega

theorem emitRaw_eq (seq : List Byte) (s : State) (h : s.kbd.buf.length ≤ 16) : emitRaw seq s = s.deviceSends seq := by
  induction seq generalizing s with
  | nil => simp [emitRaw, h]
  | cons b l ih =>
    rw [emitRaw, kbdEnqueue_eq b s h, ih _ (State.deviceSends_length _ _), State.deviceSends_append _ _ _ h]
    rfl

theorem emitTranslated_eq (seq : List Byte) (brk : Bool) (s : State) (h : s.kbd.buf.length ≤ 16) :
    emitTranslated seq (if brk then 0x80 else 0x00) s = s.deviceSends (translatedBytes brk seq) := by
  induction seq generalizing s brk with
  | nil => simp [emitTranslated, translatedBytes, h]
  | cons b l ih =>
    rw [emitTranslated, translatedBytes]
    split
    · exact ih true s h
    · rw [kbdEnqueue_eq _ s h]
      refine (ih false _ (State.deviceSends_length _ _)).trans ?_
      rw [State.deviceSends_append _ _ _ h]
      cases brk <;> simp

/-- The arrival of a byte for the device. -/
theorem devicePrologue_eq (s : State) : devicePrologue s = s.deviceByte := by
  cases hk : s.kbc.kbdClockEnabled <;> cases ho : s.kbc.outb <;>
    simp [devicePrologue, State.deviceByte, setKbdClock, activateTimer, hk, ho]

/-! ## Footprints -/

/-- A footprint of the keyboard side: controller, device, outputs and log. -/
def KbdOnly (s t : State) : Prop := t = { s with kbc := t.kbc, kbd := t.kbd, outputs := t.outputs, log := t.log }

theorem KbdOnly.refl (s : State) : KbdOnly s s := rfl

theorem KbdOnly.trans {s t u : State} (h : KbdOnly s t) (h' : KbdOnly t u) : KbdOnly s u := by
  unfold KbdOnly at *
  rw [h', h]

theorem kbdEnqueue_only (b : Byte) (s : State) : KbdOnly s (kbdEnqueue b s) := by
  unfold kbdEnqueue activateTimer
  dsimp only
  split
  · rfl
  · split <;> rfl

theorem kbcEnqueue_only (b : Byte) (aux : Bool) (s : State) : KbdOnly s (kbcEnqueue b aux s) := by
  unfold kbcEnqueue
  split
  · unfold State.noteIf; split <;> rfl
  · rfl

theorem setKbdClock_only (v : Bool) (s : State) : KbdOnly s (setKbdClock v s) := by
  unfold setKbdClock activateTimer
  dsimp only
  split <;> rfl

theorem setAuxClock_only (v : Bool) (s : State) : KbdOnly s (setAuxClock v s) := by
  unfold setAuxClock activateTimer
  dsimp only
  split <;> rfl

theorem emitRaw_only (seq : List Byte) (s : State) : KbdOnly s (emitRaw seq s) := by
  induction seq generalizing s with
  | nil => exact .refl s
  | cons b l ih => exact (kbdEnqueue_only b s).trans (ih _)

theorem emitTranslated_only (seq : List Byte) (esc : Byte) (s : State) : KbdOnly s (emitTranslated seq esc s) := by
  induction seq generalizing s esc with
  | nil => exact .refl s
  | cons b l ih =>
    rw [emitTranslated]
    split
    · exact ih _ s
    · exact (kbdEnqueue_only _ s).trans (ih _ _)

theorem hostKey_only (key : BitVec 32) (type : KeyType) (side : KeySide) (s : State) :
    KbdOnly s (hostKey key type side s) := by
  unfold hostKey emitScancodes
  split
  · split
    · exact emitTranslated_only _ _ s
    · exact emitRaw_only _ s
  · exact .refl s

/-! ## The poll (42_kbc.md R296) -/

/-- What a poll fetches. -/
theorem pollFetch_cases (s : State) :
    pollFetch s = s ∨
    pollFetch s = { s with kbc := { s.kbc with timerPending := false } } ∨
    (∃ b rest, s.kbc.outb = false ∧ s.kbd.buf = b :: rest ∧
      pollFetch s = { s with
        kbc := Kbc.putKbd { s.kbc with timerPending := false } b, kbd := { s.kbd with buf := rest } }) ∨
    ∃ b rest, s.kbc.outb = false ∧ s.env.mouse = b :: rest ∧
      pollFetch s = { s with
        kbc := Kbc.putAux { s.kbc with timerPending := false } b, env := { s.env with mouse := rest } } := by
  unfold pollFetch
  dsimp only
  split
  · exact .inl rfl
  · split
    · exact .inr (.inl rfl)
    · next ho =>
      have ho : s.kbc.outb = false := by simpa using ho
      split
      · next b rest hb _ => exact .inr (.inr (.inl ⟨b, rest, ho, hb, rfl⟩))
      · split
        · next b rest hb _ => exact .inr (.inr (.inr ⟨b, rest, ho, hb, rfl⟩))
        · exact .inr (.inl rfl)

/-! ## The rules of the keyboard side -/

/-- The part of the machine's invariant that is about the keyboard controller. -/
structure Kbc.Rules (k : Kbc) : Prop where
  auxPending : k.auxb = true → k.outb = true
  scancodeSet : k.currentScancodeSet ≠ 0
  argumentAwaited : k.expectingPort60h = true → k.lastComm ∈ argumentCommands

/-- The part of the machine's invariant that is about the keyboard device. -/
structure Kbd.Rules (k : Kbd) : Prop where
  deviceBuffer : k.buf.length ≤ 16
  oneSubState :
    ¬(k.expectingTypematic = true ∧ k.expectingLedWrite = true) ∧
    ¬(k.expectingTypematic = true ∧ k.expectingScancodeSet = true) ∧
    ¬(k.expectingLedWrite = true ∧ k.expectingScancodeSet = true)

/-- The two together. -/
def State.KbdRules (s : State) : Prop := s.kbc.Rules ∧ s.kbd.Rules

theorem Kbc.Rules.of_eq {k l : Kbc} (h : k.Rules) (ha : l.auxb = k.auxb) (ho : l.outb = k.outb)
    (hs : l.currentScancodeSet = k.currentScancodeSet) (he : l.expectingPort60h = k.expectingPort60h)
    (hl : l.lastComm = k.lastComm) : l.Rules :=
  ⟨by rw [ha, ho]; exact h.1, by rw [hs]; exact h.2, by rw [he, hl]; exact h.3⟩

theorem Kbc.Rules.timer {k : Kbc} (h : k.Rules) (v : Bool) : Kbc.Rules { k with timerPending := v } :=
  h.of_eq rfl rfl rfl rfl rfl

theorem Kbc.Rules.putKbd {k : Kbc} (h : k.Rules) (b : Byte) : (k.putKbd b).Rules := ⟨fun _ => rfl, h.2, h.3⟩

theorem Kbc.Rules.putAux {k : Kbc} (h : k.Rules) (b : Byte) : (k.putAux b).Rules := ⟨fun _ => rfl, h.2, h.3⟩

theorem State.KbdRules.kbdEnqueue {s : State} (h : s.KbdRules) (b : Byte) : (kbdEnqueue b s).KbdRules := by
  rw [kbdEnqueue_eq b s h.2.1]
  exact ⟨h.1.of_eq rfl rfl rfl rfl rfl, ⟨State.deviceSends_length s _, h.2.2⟩⟩

theorem State.KbdRules.kbcEnqueue {s : State} (h : s.KbdRules) (b : Byte) (aux : Bool) :
    (kbcEnqueue b aux s).KbdRules := by
  unfold Machine.kbcEnqueue
  split
  · refine ⟨h.1.of_eq rfl rfl rfl rfl rfl, ?_⟩
    simpa using h.2
  · cases aux
    · exact ⟨(h.1.putKbd b).of_eq rfl rfl rfl rfl rfl, h.2⟩
    · exact ⟨(h.1.putAux b).of_eq rfl rfl rfl rfl rfl, h.2⟩

theorem State.KbdRules.setKbdClock {s : State} (h : s.KbdRules) (v : Bool) : (setKbdClock v s).KbdRules := by
  unfold Machine.setKbdClock activateTimer
  dsimp only
  split <;> exact ⟨h.1.of_eq rfl rfl rfl rfl rfl, h.2⟩

theorem State.KbdRules.setAuxClock {s : State} (h : s.KbdRules) (v : Bool) : (setAuxClock v s).KbdRules := by
  unfold Machine.setAuxClock activateTimer
  dsimp only
  split <;> exact ⟨h.1.of_eq rfl rfl rfl rfl rfl, h.2⟩

theorem State.KbdRules.emitRaw {s : State} (h : s.KbdRules) (seq : List Byte) : (emitRaw seq s).KbdRules := by
  induction seq generalizing s with
  | nil => exact h
  | cons b l ih => exact ih (h.kbdEnqueue b)

theorem State.KbdRules.emitTranslated {s : State} (h : s.KbdRules) (seq : List Byte) (esc : Byte) :
    (emitTranslated seq esc s).KbdRules := by
  induction seq generalizing s esc with
  | nil => exact h
  | cons b l ih =>
    rw [Machine.emitTranslated]
    split
    · exact ih h _
    · exact ih (h.kbdEnqueue _) _

theorem State.KbdRules.hostKey {s : State} (h : s.KbdRules) (key : BitVec 32) (type : KeyType) (side : KeySide) :
    (hostKey key type side s).KbdRules := by
  unfold Machine.hostKey emitScancodes
  split
  · split
    · exact h.emitTranslated _ _
    · exact h.emitRaw _
  · exact h

theorem State.KbdRules.pollFetch {s : State} (h : s.KbdRules) : (pollFetch s).KbdRules := by
  obtain e | e | ⟨b, rest, -, hb, e⟩ | ⟨b, rest, -, -, e⟩ := pollFetch_cases s <;> rw [e]
  · exact h
  · exact ⟨h.1.of_eq rfl rfl rfl rfl rfl, h.2⟩
  · have hr : rest.length ≤ 16 := by
      have := h.2.1
      rw [hb, List.length_cons] at this
      omega
    exact ⟨(h.1.timer false).putKbd b, ⟨hr, h.2.2⟩⟩
  · exact ⟨(h.1.timer false).putAux b, h.2⟩

end Sys2Proof.Machine
end

