-- ==== Sys2Proof/Laws/PerInstr.lean ====
section
/-! SUPPORT. For every instruction, the shape of its packet: which class it has, and which fields are 0
(spec/30_encoding.md R100, R117; notes/assumptions/3.md). One lemma for each constructor. -/

namespace Sys2Proof.Laws

/-- The packet of an instruction has the shape of its class. A byte access of a well-formed instruction goes to one of the
block's ports, has no operand word, and a read has no data byte; a word or doubleword access has no data byte and no second
operand word, and a read no first one; a signal has no port and one of the ten selectors. -/
def WordShape.Statement (i : Instr) : Prop :=
  let f := encodeFields i
  f.high = 0 ∧
    ((f.cls = 0 ∧ ownedPort f.port = true ∧ f.argA = 0 ∧ f.argB = 0 ∧ (f.write = false → f.data = 0)) ∨
      ((f.cls = 1 ∨ f.cls = 2) ∧ (wellFormed i = true → ownedPort f.port = true) ∧ f.data = 0 ∧ f.argB = 0 ∧
        (f.write = false → f.argA = 0)) ∨
      (f.cls = 7 ∧ f.write = false ∧ f.port = 0 ∧ f.data ≤ 9))

/-- A byte read of an owned port. -/
theorem WordShape.read (i : Instr) (p : PortNo) (h : encodeFields i = inWord p) (o : ownedPort p = true) :
    WordShape.Statement i := by
  unfold WordShape.Statement
  rw [h]
  exact ⟨rfl, .inl ⟨rfl, o, rfl, rfl, fun _ => rfl⟩⟩

/-- A byte write to an owned port. -/
theorem WordShape.write (i : Instr) (p : PortNo) (b : Byte) (h : encodeFields i = outWord p b)
    (o : ownedPort p = true) : WordShape.Statement i := by
  unfold WordShape.Statement
  rw [h]
  exact ⟨rfl, .inl ⟨rfl, o, rfl, rfl, fun h => Bool.noConfusion h⟩⟩

/-- A word or doubleword access. -/
theorem WordShape.wide (i : Instr) (cls : BitVec 3) (w : Bool) (p : PortNo) (v : BitVec 32)
    (h : encodeFields i = wideWord cls w p v) (c : cls = 1 ∨ cls = 2) (o : wellFormed i = true → ownedPort p = true)
    (r : w = false → v = 0) : WordShape.Statement i := by
  unfold WordShape.Statement
  rw [h]
  exact ⟨rfl, .inr (.inl ⟨c, o, rfl, rfl, r⟩)⟩

/-- A signal. -/
theorem WordShape.signal (i : Instr) (n : Byte) (a b : BitVec 32) (h : encodeFields i = sigWord n a b) (l : n ≤ 9) :
    WordShape.Statement i := by
  unfold WordShape.Statement
  rw [h]
  exact ⟨rfl, .inr (.inr ⟨rfl, rfl, rfl, l⟩)⟩

theorem WordShape.pic0Icw1 (data : Byte) :
    WordShape.Statement (.pic0Icw1 data) := WordShape.write _ _ _ rfl (by decide)
theorem WordShape.pic0Ocw3 (data : Byte) :
    WordShape.Statement (.pic0Ocw3 data) := WordShape.write _ _ _ rfl (by decide)
theorem WordShape.pic0Eoi : WordShape.Statement .pic0Eoi := WordShape.write _ _ _ rfl (by decide)
theorem WordShape.pic0EoiRotate : WordShape.Statement .pic0EoiRotate := WordShape.write _ _ _ rfl (by decide)
theorem WordShape.pic0Seoi (level : Input) :
    WordShape.Statement (.pic0Seoi level) := WordShape.write _ _ _ rfl (by decide)
theorem WordShape.pic0SeoiRotate (level : Input) :
    WordShape.Statement (.pic0SeoiRotate level) := WordShape.write _ _ _ rfl (by decide)
theorem WordShape.pic0SetPriority (level : Input) :
    WordShape.Statement (.pic0SetPriority level) := WordShape.write _ _ _ rfl (by decide)
theorem WordShape.pic0Ocw2Nop : WordShape.Statement .pic0Ocw2Nop := WordShape.write _ _ _ rfl (by decide)
theorem WordShape.pic0RotAeoiSet : WordShape.Statement .pic0RotAeoiSet := WordShape.write _ _ _ rfl (by decide)
theorem WordShape.pic0RotAeoiClr : WordShape.Statement .pic0RotAeoiClr := WordShape.write _ _ _ rfl (by decide)
theorem WordShape.pic0Ocw2Reserved (data : Byte) :
    WordShape.Statement (.pic0Ocw2Reserved data) := WordShape.write _ _ _ rfl (by decide)
theorem WordShape.pic0Icw2 (data : Byte) :
    WordShape.Statement (.pic0Icw2 data) := WordShape.write _ _ _ rfl (by decide)
theorem WordShape.pic0Icw3 (data : Byte) :
    WordShape.Statement (.pic0Icw3 data) := WordShape.write _ _ _ rfl (by decide)
theorem WordShape.pic0Icw4 (data : Byte) :
    WordShape.Statement (.pic0Icw4 data) := WordShape.write _ _ _ rfl (by decide)
theorem WordShape.pic0Ocw1 (data : Byte) :
    WordShape.Statement (.pic0Ocw1 data) := WordShape.write _ _ _ rfl (by decide)
theorem WordShape.pic0ReadCmd : WordShape.Statement .pic0ReadCmd := WordShape.read _ _ rfl (by decide)
theorem WordShape.pic0ReadMask : WordShape.Statement .pic0ReadMask := WordShape.read _ _ rfl (by decide)
theorem WordShape.pic0PollCmd : WordShape.Statement .pic0PollCmd := WordShape.read _ _ rfl (by decide)
theorem WordShape.pic0PollMask : WordShape.Statement .pic0PollMask := WordShape.read _ _ rfl (by decide)
theorem WordShape.pic1Icw1 (data : Byte) :
    WordShape.Statement (.pic1Icw1 data) := WordShape.write _ _ _ rfl (by decide)
theorem WordShape.pic1Ocw3 (data : Byte) :
    WordShape.Statement (.pic1Ocw3 data) := WordShape.write _ _ _ rfl (by decide)
theorem WordShape.pic1Eoi : WordShape.Statement .pic1Eoi := WordShape.write _ _ _ rfl (by decide)
theorem WordShape.pic1EoiRotate : WordShape.Statement .pic1EoiRotate := WordShape.write _ _ _ rfl (by decide)
theorem WordShape.pic1Seoi (level : Input) :
    WordShape.Statement (.pic1Seoi level) := WordShape.write _ _ _ rfl (by decide)
theorem WordShape.pic1SeoiRotate (level : Input) :
    WordShape.Statement (.pic1SeoiRotate level) := WordShape.write _ _ _ rfl (by decide)
theorem WordShape.pic1SetPriority (level : Input) :
    WordShape.Statement (.pic1SetPriority level) := WordShape.write _ _ _ rfl (by decide)
theorem WordShape.pic1Ocw2Nop : WordShape.Statement .pic1Ocw2Nop := WordShape.write _ _ _ rfl (by decide)
theorem WordShape.pic1RotAeoiSet : WordShape.Statement .pic1RotAeoiSet := WordShape.write _ _ _ rfl (by decide)
theorem WordShape.pic1RotAeoiClr : WordShape.Statement .pic1RotAeoiClr := WordShape.write _ _ _ rfl (by decide)
theorem WordShape.pic1Ocw2Reserved (data : Byte) :
    WordShape.Statement (.pic1Ocw2Reserved data) := WordShape.write _ _ _ rfl (by decide)
theorem WordShape.pic1Icw2 (data : Byte) :
    WordShape.Statement (.pic1Icw2 data) := WordShape.write _ _ _ rfl (by decide)
theorem WordShape.pic1Icw3 (data : Byte) :
    WordShape.Statement (.pic1Icw3 data) := WordShape.write _ _ _ rfl (by decide)
theorem WordShape.pic1Icw4 (data : Byte) :
    WordShape.Statement (.pic1Icw4 data) := WordShape.write _ _ _ rfl (by decide)
theorem WordShape.pic1Ocw1 (data : Byte) :
    WordShape.Statement (.pic1Ocw1 data) := WordShape.write _ _ _ rfl (by decide)
theorem WordShape.pic1ReadCmd : WordShape.Statement .pic1ReadCmd := WordShape.read _ _ rfl (by decide)
theorem WordShape.pic1ReadMask : WordShape.Statement .pic1ReadMask := WordShape.read _ _ rfl (by decide)
theorem WordShape.pic1PollCmd : WordShape.Statement .pic1PollCmd := WordShape.read _ _ rfl (by decide)
theorem WordShape.pic1PollMask : WordShape.Statement .pic1PollMask := WordShape.read _ _ rfl (by decide)
theorem WordShape.dma0Addr0W (data : Byte) :
    WordShape.Statement (.dma0Addr0W data) := WordShape.write _ _ _ rfl (by decide)
theorem WordShape.dma0Addr0R : WordShape.Statement .dma0Addr0R := WordShape.read _ _ rfl (by decide)
theorem WordShape.dma0Count0W (data : Byte) :
    WordShape.Statement (.dma0Count0W data) := WordShape.write _ _ _ rfl (by decide)
theorem WordShape.dma0Count0R : WordShape.Statement .dma0Count0R := WordShape.read _ _ rfl (by decide)
theorem WordShape.dma0Addr1W (data : Byte) :
    WordShape.Statement (.dma0Addr1W data) := WordShape.write _ _ _ rfl (by decide)
theorem WordShape.dma0Addr1R : WordShape.Statement .dma0Addr1R := WordShape.read _ _ rfl (by decide)
theorem WordShape.dma0Count1W (data : Byte) :
    WordShape.Statement (.dma0Count1W data) := WordShape.write _ _ _ rfl (by decide)
theorem WordShape.dma0Count1R : WordShape.Statement .dma0Count1R := WordShape.read _ _ rfl (by decide)
theorem WordShape.dma0Addr2W (data : Byte) :
    WordShape.Statement (.dma0Addr2W data) := WordShape.write _ _ _ rfl (by decide)
theorem WordShape.dma0Addr2R : WordShape.Statement .dma0Addr2R := WordShape.read _ _ rfl (by decide)
theorem WordShape.dma0Count2W (data : Byte) :
    WordShape.Statement (.dma0Count2W data) := WordShape.write _ _ _ rfl (by decide)
theorem WordShape.dma0Count2R : WordShape.Statement .dma0Count2R := WordShape.read _ _ rfl (by decide)
theorem WordShape.dma0Addr3W (data : Byte) :
    WordShape.Statement (.dma0Addr3W data) := WordShape.write _ _ _ rfl (by decide)
theorem WordShape.dma0Addr3R : WordShape.Statement .dma0Addr3R := WordShape.read _ _ rfl (by decide)
theorem WordShape.dma0Count3W (data : Byte) :
    WordShape.Statement (.dma0Count3W data) := WordShape.write _ _ _ rfl (by decide)
theorem WordShape.dma0Count3R : WordShape.Statement .dma0Count3R := WordShape.read _ _ rfl (by decide)
theorem WordShape.dma0CommandW (data : Byte) :
    WordShape.Statement (.dma0CommandW data) := WordShape.write _ _ _ rfl (by decide)
theorem WordShape.dma0StatusR : WordShape.Statement .dma0StatusR := WordShape.read _ _ rfl (by decide)
theorem WordShape.dma0RequestW (data : Byte) :
    WordShape.Statement (.dma0RequestW data) := WordShape.write _ _ _ rfl (by decide)
theorem WordShape.dma0SingleMaskW (data : Byte) :
    WordShape.Statement (.dma0SingleMaskW data) := WordShape.write _ _ _ rfl (by decide)
theorem WordShape.dma0ModeW (data : Byte) :
    WordShape.Statement (.dma0ModeW data) := WordShape.write _ _ _ rfl (by decide)
theorem WordShape.dma0ClearFlipflop (data : Byte) :
    WordShape.Statement (.dma0ClearFlipflop data) := WordShape.write _ _ _ rfl (by decide)
theorem WordShape.dma0MasterClear (data : Byte) :
    WordShape.Statement (.dma0MasterClear data) := WordShape.write _ _ _ rfl (by decide)
theorem WordShape.dma0ClearMask (data : Byte) :
    WordShape.Statement (.dma0ClearMask data) := WordShape.write _ _ _ rfl (by decide)
theorem WordShape.dma0FullMaskW (data : Byte) :
    WordShape.Statement (.dma0FullMaskW data) := WordShape.write _ _ _ rfl (by decide)
theorem WordShape.dma0WriteOnlyR9 : WordShape.Statement .dma0WriteOnlyR9 := WordShape.read _ _ rfl (by decide)
theorem WordShape.dma0WriteOnlyRA : WordShape.Statement .dma0WriteOnlyRA := WordShape.read _ _ rfl (by decide)
theorem WordShape.dma0WriteOnlyRB : WordShape.Statement .dma0WriteOnlyRB := WordShape.read _ _ rfl (by decide)
theorem WordShape.dma0WriteOnlyRC : WordShape.Statement .dma0WriteOnlyRC := WordShape.read _ _ rfl (by decide)
theorem WordShape.dma0WriteOnlyRD : WordShape.Statement .dma0WriteOnlyRD := WordShape.read _ _ rfl (by decide)
theorem WordShape.dma0WriteOnlyRE : WordShape.Statement .dma0WriteOnlyRE := WordShape.read _ _ rfl (by decide)
theorem WordShape.dma0WriteOnlyRF : WordShape.Statement .dma0WriteOnlyRF := WordShape.read _ _ rfl (by decide)
theorem WordShape.dma1Addr0W (data : Byte) :
    WordShape.Statement (.dma1Addr0W data) := WordShape.write _ _ _ rfl (by decide)
theorem WordShape.dma1Addr0R : WordShape.Statement .dma1Addr0R := WordShape.read _ _ rfl (by decide)
theorem WordShape.dma1Count0W (data : Byte) :
    WordShape.Statement (.dma1Count0W data) := WordShape.write _ _ _ rfl (by decide)
theorem WordShape.dma1Count0R : WordShape.Statement .dma1Count0R := WordShape.read _ _ rfl (by decide)
theorem WordShape.dma1Addr1W (data : Byte) :
    WordShape.Statement (.dma1Addr1W data) := WordShape.write _ _ _ rfl (by decide)
theorem WordShape.dma1Addr1R : WordShape.Statement .dma1Addr1R := WordShape.read _ _ rfl (by decide)
theorem WordShape.dma1Count1W (data : Byte) :
    WordShape.Statement (.dma1Count1W data) := WordShape.write _ _ _ rfl (by decide)
theorem WordShape.dma1Count1R : WordShape.Statement .dma1Count1R := WordShape.read _ _ rfl (by decide)
theorem WordShape.dma1Addr2W (data : Byte) :
    WordShape.Statement (.dma1Addr2W data) := WordShape.write _ _ _ rfl (by decide)
theorem WordShape.dma1Addr2R : WordShape.Statement .dma1Addr2R := WordShape.read _ _ rfl (by decide)
theorem WordShape.dma1Count2W (data : Byte) :
    WordShape.Statement (.dma1Count2W data) := WordShape.write _ _ _ rfl (by decide)
theorem WordShape.dma1Count2R : WordShape.Statement .dma1Count2R := WordShape.read _ _ rfl (by decide)
theorem WordShape.dma1Addr3W (data : Byte) :
    WordShape.Statement (.dma1Addr3W data) := WordShape.write _ _ _ rfl (by decide)
theorem WordShape.dma1Addr3R : WordShape.Statement .dma1Addr3R := WordShape.read _ _ rfl (by decide)
theorem WordShape.dma1Count3W (data : Byte) :
    WordShape.Statement (.dma1Count3W data) := WordShape.write _ _ _ rfl (by decide)
theorem WordShape.dma1Count3R : WordShape.Statement .dma1Count3R := WordShape.read _ _ rfl (by decide)
theorem WordShape.dma1CommandW (data : Byte) :
    WordShape.Statement (.dma1CommandW data) := WordShape.write _ _ _ rfl (by decide)
theorem WordShape.dma1StatusR : WordShape.Statement .dma1StatusR := WordShape.read _ _ rfl (by decide)
theorem WordShape.dma1RequestW (data : Byte) :
    WordShape.Statement (.dma1RequestW data) := WordShape.write _ _ _ rfl (by decide)
theorem WordShape.dma1SingleMaskW (data : Byte) :
    WordShape.Statement (.dma1SingleMaskW data) := WordShape.write _ _ _ rfl (by decide)
theorem WordShape.dma1ModeW (data : Byte) :
    WordShape.Statement (.dma1ModeW data) := WordShape.write _ _ _ rfl (by decide)
theorem WordShape.dma1ClearFlipflop (data : Byte) :
    WordShape.Statement (.dma1ClearFlipflop data) := WordShape.write _ _ _ rfl (by decide)
theorem WordShape.dma1MasterClear (data : Byte) :
    WordShape.Statement (.dma1MasterClear data) := WordShape.write _ _ _ rfl (by decide)
theorem WordShape.dma1ClearMask (data : Byte) :
    WordShape.Statement (.dma1ClearMask data) := WordShape.write _ _ _ rfl (by decide)
theorem WordShape.dma1FullMaskW (data : Byte) :
    WordShape.Statement (.dma1FullMaskW data) := WordShape.write _ _ _ rfl (by decide)
theorem WordShape.dma1WriteOnlyR9 : WordShape.Statement .dma1WriteOnlyR9 := WordShape.read _ _ rfl (by decide)
theorem WordShape.dma1WriteOnlyRA : WordShape.Statement .dma1WriteOnlyRA := WordShape.read _ _ rfl (by decide)
theorem WordShape.dma1WriteOnlyRB : WordShape.Statement .dma1WriteOnlyRB := WordShape.read _ _ rfl (by decide)
theorem WordShape.dma1WriteOnlyRC : WordShape.Statement .dma1WriteOnlyRC := WordShape.read _ _ rfl (by decide)
theorem WordShape.dma1WriteOnlyRD : WordShape.Statement .dma1WriteOnlyRD := WordShape.read _ _ rfl (by decide)
theorem WordShape.dma1WriteOnlyRE : WordShape.Statement .dma1WriteOnlyRE := WordShape.read _ _ rfl (by decide)
theorem WordShape.dma1WriteOnlyRF : WordShape.Statement .dma1WriteOnlyRF := WordShape.read _ _ rfl (by decide)
theorem WordShape.dmaPageG0W (data : Byte) :
    WordShape.Statement (.dmaPageG0W data) := WordShape.write _ _ _ rfl (by decide)
theorem WordShape.dmaPageG0R : WordShape.Statement .dmaPageG0R := WordShape.read _ _ rfl (by decide)
theorem WordShape.dmaPageG1W (data : Byte) :
    WordShape.Statement (.dmaPageG1W data) := WordShape.write _ _ _ rfl (by decide)
theorem WordShape.dmaPageG1R : WordShape.Statement .dmaPageG1R := WordShape.read _ _ rfl (by decide)
theorem WordShape.dmaPageG2W (data : Byte) :
    WordShape.Statement (.dmaPageG2W data) := WordShape.write _ _ _ rfl (by decide)
theorem WordShape.dmaPageG2R : WordShape.Statement .dmaPageG2R := WordShape.read _ _ rfl (by decide)
theorem WordShape.dmaPageG3W (data : Byte) :
    WordShape.Statement (.dmaPageG3W data) := WordShape.write _ _ _ rfl (by decide)
theorem WordShape.dmaPageG3R : WordShape.Statement .dmaPageG3R := WordShape.read _ _ rfl (by decide)
theorem WordShape.dmaPageG4W (data : Byte) :
    WordShape.Statement (.dmaPageG4W data) := WordShape.write _ _ _ rfl (by decide)
theorem WordShape.dmaPageG4R : WordShape.Statement .dmaPageG4R := WordShape.read _ _ rfl (by decide)
theorem WordShape.dmaPageG5W (data : Byte) :
    WordShape.Statement (.dmaPageG5W data) := WordShape.write _ _ _ rfl (by decide)
theorem WordShape.dmaPageG5R : WordShape.Statement .dmaPageG5R := WordShape.read _ _ rfl (by decide)
theorem WordShape.dmaPageG6W (data : Byte) :
    WordShape.Statement (.dmaPageG6W data) := WordShape.write _ _ _ rfl (by decide)
theorem WordShape.dmaPageG6R : WordShape.Statement .dmaPageG6R := WordShape.read _ _ rfl (by decide)
theorem WordShape.dmaPageG7W (data : Byte) :
    WordShape.Statement (.dmaPageG7W data) := WordShape.write _ _ _ rfl (by decide)
theorem WordShape.dmaPageG7R : WordShape.Statement .dmaPageG7R := WordShape.read _ _ rfl (by decide)
theorem WordShape.dmaExtpage80W (data : Byte) :
    WordShape.Statement (.dmaExtpage80W data) := WordShape.write _ _ _ rfl (by decide)
theorem WordShape.dmaExtpage80R : WordShape.Statement .dmaExtpage80R := WordShape.read _ _ rfl (by decide)
theorem WordShape.dmaExtpage84W (data : Byte) :
    WordShape.Statement (.dmaExtpage84W data) := WordShape.write _ _ _ rfl (by decide)
theorem WordShape.dmaExtpage84R : WordShape.Statement .dmaExtpage84R := WordShape.read _ _ rfl (by decide)
theorem WordShape.dmaExtpage85W (data : Byte) :
    WordShape.Statement (.dmaExtpage85W data) := WordShape.write _ _ _ rfl (by decide)
theorem WordShape.dmaExtpage85R : WordShape.Statement .dmaExtpage85R := WordShape.read _ _ rfl (by decide)
theorem WordShape.dmaExtpage86W (data : Byte) :
    WordShape.Statement (.dmaExtpage86W data) := WordShape.write _ _ _ rfl (by decide)
theorem WordShape.dmaExtpage86R : WordShape.Statement .dmaExtpage86R := WordShape.read _ _ rfl (by decide)
theorem WordShape.dmaExtpage88W (data : Byte) :
    WordShape.Statement (.dmaExtpage88W data) := WordShape.write _ _ _ rfl (by decide)
theorem WordShape.dmaExtpage88R : WordShape.Statement .dmaExtpage88R := WordShape.read _ _ rfl (by decide)
theorem WordShape.dmaExtpage8CW (data : Byte) :
    WordShape.Statement (.dmaExtpage8CW data) := WordShape.write _ _ _ rfl (by decide)
theorem WordShape.dmaExtpage8CR : WordShape.Statement .dmaExtpage8CR := WordShape.read _ _ rfl (by decide)
theorem WordShape.dmaExtpage8DW (data : Byte) :
    WordShape.Statement (.dmaExtpage8DW data) := WordShape.write _ _ _ rfl (by decide)
theorem WordShape.dmaExtpage8DR : WordShape.Statement .dmaExtpage8DR := WordShape.read _ _ rfl (by decide)
theorem WordShape.dmaExtpage8EW (data : Byte) :
    WordShape.Statement (.dmaExtpage8EW data) := WordShape.write _ _ _ rfl (by decide)
theorem WordShape.dmaExtpage8ER : WordShape.Statement .dmaExtpage8ER := WordShape.read _ _ rfl (by decide)
theorem WordShape.kbcCmdReadConfig : WordShape.Statement .kbcCmdReadConfig := WordShape.write _ _ _ rfl (by decide)
theorem WordShape.kbcCmdWriteConfig : WordShape.Statement .kbcCmdWriteConfig := WordShape.write _ _ _ rfl (by decide)
theorem WordShape.kbcCmdAuxDisable : WordShape.Statement .kbcCmdAuxDisable := WordShape.write _ _ _ rfl (by decide)
theorem WordShape.kbcCmdAuxEnable : WordShape.Statement .kbcCmdAuxEnable := WordShape.write _ _ _ rfl (by decide)
theorem WordShape.kbcCmdAuxTest : WordShape.Statement .kbcCmdAuxTest := WordShape.write _ _ _ rfl (by decide)
theorem WordShape.kbcCmdSelfTest : WordShape.Statement .kbcCmdSelfTest := WordShape.write _ _ _ rfl (by decide)
theorem WordShape.kbcCmdKbdIfTest : WordShape.Statement .kbcCmdKbdIfTest := WordShape.write _ _ _ rfl (by decide)
theorem WordShape.kbcCmdKbdDisable : WordShape.Statement .kbcCmdKbdDisable := WordShape.write _ _ _ rfl (by decide)
theorem WordShape.kbcCmdKbdEnable : WordShape.Statement .kbcCmdKbdEnable := WordShape.write _ _ _ rfl (by decide)
theorem WordShape.kbcCmdReadOutport : WordShape.Statement .kbcCmdReadOutport := WordShape.write _ _ _ rfl (by decide)
theorem WordShape.kbcCmdWriteOutport :
    WordShape.Statement .kbcCmdWriteOutport := WordShape.write _ _ _ rfl (by decide)
theorem WordShape.kbcCmdWriteKbdOutbuf :
    WordShape.Statement .kbcCmdWriteKbdOutbuf := WordShape.write _ _ _ rfl (by decide)
theorem WordShape.kbcCmdWriteAuxOutbuf :
    WordShape.Statement .kbcCmdWriteAuxOutbuf := WordShape.write _ _ _ rfl (by decide)
theorem WordShape.kbcCmdWriteToMouse :
    WordShape.Statement .kbcCmdWriteToMouse := WordShape.write _ _ _ rfl (by decide)
theorem WordShape.kbcCmdA20Disable : WordShape.Statement .kbcCmdA20Disable := WordShape.write _ _ _ rfl (by decide)
theorem WordShape.kbcCmdA20Enable : WordShape.Statement .kbcCmdA20Enable := WordShape.write _ _ _ rfl (by decide)
theorem WordShape.kbcCmdSystemResetUnimpl :
    WordShape.Statement .kbcCmdSystemResetUnimpl := WordShape.write _ _ _ rfl (by decide)
theorem WordShape.kbcCmdPulseNop (data : Byte) :
    WordShape.Statement (.kbcCmdPulseNop data) := WordShape.write _ _ _ rfl (by decide)
theorem WordShape.kbcCmdUnsupported (data : Byte) :
    WordShape.Statement (.kbcCmdUnsupported data) := WordShape.write _ _ _ rfl (by decide)
theorem WordShape.kbcStatusR : WordShape.Statement .kbcStatusR := WordShape.read _ _ rfl (by decide)
theorem WordShape.kbcDataRAux : WordShape.Statement .kbcDataRAux := WordShape.read _ _ rfl (by decide)
theorem WordShape.kbcDataRKbd : WordShape.Statement .kbcDataRKbd := WordShape.read _ _ rfl (by decide)
theorem WordShape.kbcDataREmpty : WordShape.Statement .kbcDataREmpty := WordShape.read _ _ rfl (by decide)
theorem WordShape.kbcArgConfig (data : Byte) :
    WordShape.Statement (.kbcArgConfig data) := WordShape.write _ _ _ rfl (by decide)
theorem WordShape.kbcArgOutport (data : Byte) :
    WordShape.Statement (.kbcArgOutport data) := WordShape.write _ _ _ rfl (by decide)
theorem WordShape.kbcArgKbdOutbuf (data : Byte) :
    WordShape.Statement (.kbcArgKbdOutbuf data) := WordShape.write _ _ _ rfl (by decide)
theorem WordShape.kbcArgAuxOutbuf (data : Byte) :
    WordShape.Statement (.kbcArgAuxOutbuf data) := WordShape.write _ _ _ rfl (by decide)
theorem WordShape.kbcArgToMouse (data : Byte) :
    WordShape.Statement (.kbcArgToMouse data) := WordShape.write _ _ _ rfl (by decide)
theorem WordShape.kbcArgUnexpected (data : Byte) :
    WordShape.Statement (.kbcArgUnexpected data) := WordShape.write _ _ _ rfl (by decide)
theorem WordShape.kbdArgTypematic (data : Byte) :
    WordShape.Statement (.kbdArgTypematic data) := WordShape.write _ _ _ rfl (by decide)
theorem WordShape.kbdArgLed (data : Byte) :
    WordShape.Statement (.kbdArgLed data) := WordShape.write _ _ _ rfl (by decide)
theorem WordShape.kbdArgScancodeSet (data : Byte) :
    WordShape.Statement (.kbdArgScancodeSet data) := WordShape.write _ _ _ rfl (by decide)
theorem WordShape.kbdCmdSetLeds : WordShape.Statement .kbdCmdSetLeds := WordShape.write _ _ _ rfl (by decide)
theorem WordShape.kbdCmdEcho : WordShape.Statement .kbdCmdEcho := WordShape.write _ _ _ rfl (by decide)
theorem WordShape.kbdCmdSelectScancodeSet :
    WordShape.Statement .kbdCmdSelectScancodeSet := WordShape.write _ _ _ rfl (by decide)
theorem WordShape.kbdCmdIdentify : WordShape.Statement .kbdCmdIdentify := WordShape.write _ _ _ rfl (by decide)
theorem WordShape.kbdCmdSetTypematic :
    WordShape.Statement .kbdCmdSetTypematic := WordShape.write _ _ _ rfl (by decide)
theorem WordShape.kbdCmdEnableScanning :
    WordShape.Statement .kbdCmdEnableScanning := WordShape.write _ _ _ rfl (by decide)
theorem WordShape.kbdCmdResetDisable :
    WordShape.Statement .kbdCmdResetDisable := WordShape.write _ _ _ rfl (by decide)
theorem WordShape.kbdCmdResetEnable : WordShape.Statement .kbdCmdResetEnable := WordShape.write _ _ _ rfl (by decide)
theorem WordShape.kbdCmdResend : WordShape.Statement .kbdCmdResend := WordShape.write _ _ _ rfl (by decide)
theorem WordShape.kbdCmdResetBat : WordShape.Statement .kbdCmdResetBat := WordShape.write _ _ _ rfl (by decide)
theorem WordShape.kbdCmdUnrecognized (data : Byte) :
    WordShape.Statement (.kbdCmdUnrecognized data) := WordShape.write _ _ _ rfl (by decide)
theorem WordShape.inw (port : PortNo) :
    WordShape.Statement (.inw port) := WordShape.wide _ _ _ _ _ rfl (.inl rfl) id (fun _ => rfl)
theorem WordShape.outw (port : PortNo) (v : BitVec 16) :
    WordShape.Statement (.outw port v) := WordShape.wide _ _ _ _ _ rfl (.inl rfl) id (fun h => Bool.noConfusion h)
theorem WordShape.ind (port : PortNo) :
    WordShape.Statement (.ind port) := WordShape.wide _ _ _ _ _ rfl (.inr rfl) id (fun _ => rfl)
theorem WordShape.outd (port : PortNo) (v : BitVec 32) :
    WordShape.Statement (.outd port v) := WordShape.wide _ _ _ _ _ rfl (.inr rfl) id (fun h => Bool.noConfusion h)
theorem WordShape.setIrq (n : BitVec 4) : WordShape.Statement (.setIrq n) := WordShape.signal _ _ _ _ rfl (by decide)
theorem WordShape.clearIrq (n : BitVec 4) :
    WordShape.Statement (.clearIrq n) := WordShape.signal _ _ _ _ rfl (by decide)
theorem WordShape.requestIrqNumber (identity : Identity) :
    WordShape.Statement (.requestIrqNumber identity) := WordShape.signal _ _ _ _ rfl (by decide)
theorem WordShape.interruptAcknowledge :
    WordShape.Statement .interruptAcknowledge := WordShape.signal _ _ _ _ rfl (by decide)
theorem WordShape.registerChannel (g : BitVec 32) (handler : Handler) :
    WordShape.Statement (.registerChannel g handler) := WordShape.signal _ _ _ _ rfl (by decide)
theorem WordShape.setDmaRequest (g : BitVec 3) (b : Bool) :
    WordShape.Statement (.setDmaRequest g b) := WordShape.signal _ _ _ _ rfl (by decide)
theorem WordShape.acknowledgeBusHold :
    WordShape.Statement .acknowledgeBusHold := WordShape.signal _ _ _ _ rfl (by decide)
theorem WordShape.update : WordShape.Statement .update := WordShape.signal _ _ _ _ rfl (by decide)
theorem WordShape.keyEvent (key : BitVec 32) (type : KeyType) (side : KeySide) :
    WordShape.Statement (.keyEvent key type side) := WordShape.signal _ _ _ _ rfl (by decide)
theorem WordShape.reset : WordShape.Statement .reset := WordShape.signal _ _ _ _ rfl (by decide)

end Sys2Proof.Laws
end

