-- ==== Sys2Proof/Laws/Ports.lean ====
section
/-! SUPPORT. The bus's ports (spec/20_memory.md R70): what a registration can do, and that no operation or collaborator's move
gives a port a second owner. -/

namespace Sys2Proof.Machine

/-- No port is both the block's and another component's (20_memory.md R70). -/
def Env.OneOwner (e : Env) : Prop := ∀ p, p ∈ e.granted → p ∉ e.foreign

/-- A registration is rejected where the port has an owner, and else gives it to the claimant. -/
theorem claimPort_cases (port : PortNo) (e : Env) :
    ((port ∈ e.granted ∨ port ∈ e.foreign) ∧ claimPort port e = e) ∨
    (port ∉ e.granted ∧ port ∉ e.foreign ∧ claimPort port e = { e with foreign := port :: e.foreign }) := by
  by_cases hg : port ∈ e.granted <;> by_cases hf : port ∈ e.foreign <;> simp [claimPort, hg, hf]

theorem Env.OneOwner.claimPort {e : Env} (h : e.OneOwner) (port : PortNo) : (claimPort port e).OneOwner := by
  obtain ⟨-, eq⟩ | ⟨hg, -, eq⟩ := claimPort_cases port e <;> rw [eq]
  · exact h
  · intro p hp hf
    rcases List.mem_cons.mp hf with rfl | hf
    · exact hg hp
    · exact h p hp hf

theorem Env.OneOwner.collaboratorMove {e : Env} (h : e.OneOwner) (ev : Event) : (collaboratorMove ev e).OneOwner := by
  cases ev with
  | portClaim port => exact h.claimPort port
  | deviceUnit d j v => cases d <;> exact h
  | op p => exact h
  | mouseByte b => exact h
  | memoryByte a b => exact h
  | a20Gate on => exact h

/-- `reset()` claims the ports that no other component owns. -/
theorem Env.OneOwner.resetBlock (s : State) : (resetBlock s).env.OneOwner := by
  intro p hp
  have h : p ∉ s.env.foreign := by simpa using (List.mem_filter.mp hp).2
  exact h

end Sys2Proof.Machine
end

