-- ==== Sys2Proof/Tests/Slice0.lean ====
section
/-! SUPPORT. The model's own tests: ill-formed terms refused, words of spec/30_encoding.md decoded, single operations with
the results of spec/95_test_vectors.md, and for every statement with hypotheses a state and operands that meet them. -/

namespace Sys2Proof.Tests

open Sys2Proof Sys2Proof.Machine

/-! ## Helpers -/

/-- Every word decodes, in the reset context, to the instruction beside it. -/
abbrev Decodes (l : List (Nat × Instr)) : Prop := l.map (fun x => decodeTableWord 32 x.1) = l.map (fun x => some x.2)

/-- Every packet decodes, in a context, to the instruction beside it. -/
abbrev DecodesIn (c : DecodeCtx) (l : List (Nat × Instr)) : Prop :=
  l.map (fun x => (decode c (BitVec.ofNat 96 x.1)).toOption) = l.map (fun x => some x.2)

/-- The operation answers a next state with this property. -/
def gives (r : Result) (p : State → Bool) : Bool :=
  match r with
  | .next t => p t
  | .fault _ => false
  | .refused _ => false

/-- The reset state after `PICINIT`: both controllers open, in edge mode. -/
def picReady : State :=
  { State.reset with
    master := { State.reset.master with imr := 0x00 }
    slave := { State.reset.slave with imr := 0x00 } }

/-- `picReady` with another master. -/
def withMaster (f : Pic → Pic) : State := { picReady with master := f picReady.master }

/-- `picReady` with another slave. -/
def withSlave (f : Pic → Pic) : State := { picReady with slave := f picReady.slave }

/-- A master with these request, in-service and mask bits. -/
def masterBits (irr isr imr : Byte) : State := withMaster fun p => { p with irr := irr, isr := isr, imr := imr }

/-- The reset state with another keyboard controller. -/
def withKbc (f : Kbc → Kbc) : State := { State.reset with kbc := f State.reset.kbc }

/-- The reset state with another keyboard device. -/
def withKbd (f : Kbd → Kbd) : State := { State.reset with kbd := f State.reset.kbd }

/-- A controller with a request on channel `j`, which alone is unmasked, and a channel of this count and mode byte. -/
def requesting (x : Dma) (j : Chan) (count : Word) (mode : Byte) : Dma :=
  { x with
    chan := x.chan.set j { x.chan.get j with curCount := count, baseCount := count, mode := modeOf mode }
    drq := x.drq.set j true, status := setBit 0x00 (4 + chanIndex j) true, mask := (Quad.all true).set j false }

/-- Channel 2 of controller 0 requests through the cascade; its page is 0x02 and its address 0x1000 (P4). -/
def floppyState (count : Word) (mode : Byte) : State :=
  let s := { State.reset with
    dma0 := requesting State.reset.dma0 .c2 count mode
    dma1 := requesting State.reset.dma1 .c0 0x0000 0xC0, hrq := true }
  let s := s.setChan .dma0 .c2 { s.chan .dma0 .c2 with page := 0x02, curAddr := 0x1000, baseAddr := 0x1000 }
  { s with
    dma0 := { s.dma0 with handler := s.dma0.handler.set .c2 (some ⟨true, true⟩) }
    env := s.env.setSupply .dma0 .c2 [0x00E5] }

/-- Channel 1 of controller 1 requests; its page is 0x0A and its address 0x1234 (V24). -/
def wordState (count : Word) (mode : Byte) : State :=
  let s := { State.reset with dma1 := requesting State.reset.dma1 .c1 count mode, hrq := true }
  let s := s.setChan .dma1 .c1 { s.chan .dma1 .c1 with page := 0x0A, curAddr := 0x1234, baseAddr := 0x1234 }
  { s with
    dma1 := { s.dma1 with handler := s.dma1.handler.set .c1 (some ⟨true, true⟩) }
    env := { s.env with mem := [(0x0A2468, 0x11), (0x0A2469, 0x22)] } }

/-! ## WellFormed: every check refuses an ill-formed term (30_encoding.md R103, R104, R110, R111; 20_memory.md R71) -/

theorem test_ill_formed_icw1 : wellFormed (.pic0Icw1 0x0F) = false ∧ wellFormed (.pic1Icw1 0xEF) = false := by decide

theorem test_ill_formed_ocw3 : wellFormed (.pic0Ocw3 0x1F) = false ∧ wellFormed (.pic1Ocw3 0x07) = false := by decide

theorem test_ill_formed_reserved_ocw2 :
    wellFormed (.pic0Ocw2Reserved 0x20) = false ∧ wellFormed (.pic0Ocw2Reserved 0x67) = false ∧
    wellFormed (.pic1Ocw2Reserved 0x08) = false ∧ wellFormed (.pic1Ocw2Reserved 0x11) = false := by decide

theorem test_ill_formed_pulse :
    wellFormed (.kbcCmdPulseNop 0xFE) = false ∧ wellFormed (.kbcCmdPulseNop 0xEF) = false := by decide

theorem test_ill_formed_unsupported :
    wellFormed (.kbcCmdUnsupported 0xAA) = false ∧ wellFormed (.kbcCmdUnsupported 0xF0) = false := by decide

theorem test_ill_formed_unrecognized : wellFormed (.kbdCmdUnrecognized 0xED) = false := by decide

theorem test_ill_formed_wide_ports :
    wellFormed (.inw 0x10) = false ∧ wellFormed (.outw 0xC1 0) = false ∧ wellFormed (.ind 0xE0) = false ∧
    wellFormed (.outd 0x61 0) = false := by decide

theorem test_ill_formed_identity : wellFormed (.requestIrqNumber (.other 9)) = false := by decide

/-! ## Decode: words written from 30_encoding.md R100 to R117 -/

/-- Words of the master PIC (R103 to R106). -/
theorem test_decode_pic0 : Decodes
    [(0x1002019, .pic0Icw1 0x19),
     (0x100206B, .pic0Ocw3 0x6B),
     (0x1002020, .pic0Eoi),
     (0x10020A0, .pic0EoiRotate),
     (0x1002063, .pic0Seoi 3),
     (0x10020E0, .pic0SeoiRotate 0),
     (0x10020C5, .pic0SetPriority 5),
     (0x1002040, .pic0Ocw2Nop),
     (0x1002080, .pic0RotAeoiSet),
     (0x1002000, .pic0RotAeoiClr),
     (0x1002087, .pic0Ocw2Reserved 0x87),
     (0x1002152, .pic0Ocw1 0x52),
     (0x0002000, .pic0ReadCmd),
     (0x0002100, .pic0ReadMask)] := by decide

/-- Words of the slave PIC (R103 to R106). -/
theorem test_decode_pic1 : Decodes
    [(0x100A0B3, .pic1Icw1 0xB3),
     (0x100A08C, .pic1Ocw3 0x8C),
     (0x100A020, .pic1Eoi),
     (0x100A0A0, .pic1EoiRotate),
     (0x100A066, .pic1Seoi 6),
     (0x100A0E3, .pic1SeoiRotate 3),
     (0x100A0C0, .pic1SetPriority 0),
     (0x100A040, .pic1Ocw2Nop),
     (0x100A080, .pic1RotAeoiSet),
     (0x100A000, .pic1RotAeoiClr),
     (0x100A0A3, .pic1Ocw2Reserved 0xA3),
     (0x100A1FF, .pic1Ocw1 0xFF),
     (0x000A000, .pic1ReadCmd),
     (0x000A100, .pic1ReadMask)] := by decide

/-- Words of the DMA controller 0, addresses and counts (R107). -/
theorem test_decode_dma0_address_count : Decodes
    [(0x100002A, .dma0Addr0W 0x2A),
     (0x0000000, .dma0Addr0R),
     (0x1000109, .dma0Count0W 0x09),
     (0x0000100, .dma0Count0R),
     (0x100024C, .dma0Addr1W 0x4C),
     (0x0000200, .dma0Addr1R),
     (0x10003E3, .dma0Count1W 0xE3),
     (0x0000300, .dma0Count1R),
     (0x10004FE, .dma0Addr2W 0xFE),
     (0x0000400, .dma0Addr2R),
     (0x100050D, .dma0Count2W 0x0D),
     (0x0000500, .dma0Count2R),
     (0x10006C0, .dma0Addr3W 0xC0),
     (0x0000600, .dma0Addr3R),
     (0x1000707, .dma0Count3W 0x07),
     (0x0000700, .dma0Count3R)] := by decide

/-- Words of the DMA controller 0, control (R107). -/
theorem test_decode_dma0_control : Decodes
    [(0x1000812, .dma0CommandW 0x12),
     (0x0000800, .dma0StatusR),
     (0x1000951, .dma0RequestW 0x51),
     (0x1000A74, .dma0SingleMaskW 0x74),
     (0x1000B6B, .dma0ModeW 0x6B),
     (0x1000C66, .dma0ClearFlipflop 0x66),
     (0x1000DD5, .dma0MasterClear 0xD5),
     (0x1000E68, .dma0ClearMask 0x68),
     (0x1000F0F, .dma0FullMaskW 0x0F),
     (0x0000900, .dma0WriteOnlyR9),
     (0x0000A00, .dma0WriteOnlyRA),
     (0x0000B00, .dma0WriteOnlyRB),
     (0x0000C00, .dma0WriteOnlyRC),
     (0x0000D00, .dma0WriteOnlyRD),
     (0x0000E00, .dma0WriteOnlyRE),
     (0x0000F00, .dma0WriteOnlyRF)] := by decide

/-- Words of the DMA controller 1, addresses and counts (R107). -/
theorem test_decode_dma1_address_count : Decodes
    [(0x100C0FA, .dma1Addr0W 0xFA),
     (0x000C000, .dma1Addr0R),
     (0x100C299, .dma1Count0W 0x99),
     (0x000C200, .dma1Count0R),
     (0x100C49C, .dma1Addr1W 0x9C),
     (0x000C400, .dma1Addr1R),
     (0x100C6F3, .dma1Count1W 0xF3),
     (0x000C600, .dma1Count1R),
     (0x100C8CE, .dma1Addr2W 0xCE),
     (0x000C800, .dma1Addr2R),
     (0x100CA9D, .dma1Count2W 0x9D),
     (0x000CA00, .dma1Count2R),
     (0x100CC10, .dma1Addr3W 0x10),
     (0x000CC00, .dma1Addr3R),
     (0x100CE17, .dma1Count3W 0x17),
     (0x000CE00, .dma1Count3R)] := by decide

/-- Words of the DMA controller 1, control (R107). -/
theorem test_decode_dma1_control : Decodes
    [(0x100D0E2, .dma1CommandW 0xE2),
     (0x000D000, .dma1StatusR),
     (0x100D2E1, .dma1RequestW 0xE1),
     (0x100D4C4, .dma1SingleMaskW 0xC4),
     (0x100D67B, .dma1ModeW 0x7B),
     (0x100D836, .dma1ClearFlipflop 0x36),
     (0x100DA65, .dma1MasterClear 0x65),
     (0x100DCB8, .dma1ClearMask 0xB8),
     (0x100DE1F, .dma1FullMaskW 0x1F),
     (0x000D200, .dma1WriteOnlyR9),
     (0x000D400, .dma1WriteOnlyRA),
     (0x000D600, .dma1WriteOnlyRB),
     (0x000D800, .dma1WriteOnlyRC),
     (0x000DA00, .dma1WriteOnlyRD),
     (0x000DC00, .dma1WriteOnlyRE),
     (0x000DE00, .dma1WriteOnlyRF)] := by decide

/-- Words of the page registers (R109). -/
theorem test_decode_dma_pages : Decodes
    [(0x10087CA, .dmaPageG0W 0xCA),
     (0x0008700, .dmaPageG0R),
     (0x1008329, .dmaPageG1W 0x29),
     (0x0008300, .dmaPageG1R),
     (0x10081EC, .dmaPageG2W 0xEC),
     (0x0008100, .dmaPageG2R),
     (0x1008203, .dmaPageG3W 0x03),
     (0x0008200, .dmaPageG3R),
     (0x1008F9E, .dmaPageG4W 0x9E),
     (0x0008F00, .dmaPageG4R),
     (0x1008B2D, .dmaPageG5W 0x2D),
     (0x0008B00, .dmaPageG5R),
     (0x1008960, .dmaPageG6W 0x60),
     (0x0008900, .dmaPageG6R),
     (0x1008A27, .dmaPageG7W 0x27),
     (0x0008A00, .dmaPageG7R)] := by decide

/-- Words of the extra page registers (R109). -/
theorem test_decode_dma_extra_pages : Decodes
    [(0x10080B2, .dmaExtpage80W 0xB2),
     (0x0008000, .dmaExtpage80R),
     (0x1008471, .dmaExtpage84W 0x71),
     (0x0008400, .dmaExtpage84R),
     (0x1008514, .dmaExtpage85W 0x14),
     (0x0008500, .dmaExtpage85R),
     (0x100868B, .dmaExtpage86W 0x8B),
     (0x0008600, .dmaExtpage86R),
     (0x1008806, .dmaExtpage88W 0x06),
     (0x0008800, .dmaExtpage88R),
     (0x1008CF5, .dmaExtpage8CW 0xF5),
     (0x0008C00, .dmaExtpage8CR),
     (0x1008D08, .dmaExtpage8DW 0x08),
     (0x0008D00, .dmaExtpage8DR),
     (0x1008E2F, .dmaExtpage8EW 0x2F),
     (0x0008E00, .dmaExtpage8ER)] := by decide

/-- Words of the controller commands (R110). -/
theorem test_decode_kbc_commands_a : Decodes
    [(0x1006420, .kbcCmdReadConfig),
     (0x1006460, .kbcCmdWriteConfig),
     (0x10064A7, .kbcCmdAuxDisable),
     (0x10064A8, .kbcCmdAuxEnable),
     (0x10064A9, .kbcCmdAuxTest),
     (0x10064AA, .kbcCmdSelfTest),
     (0x10064AB, .kbcCmdKbdIfTest),
     (0x10064AD, .kbcCmdKbdDisable),
     (0x10064AE, .kbcCmdKbdEnable),
     (0x10064D0, .kbcCmdReadOutport),
     (0x10064D1, .kbcCmdWriteOutport),
     (0x10064D2, .kbcCmdWriteKbdOutbuf),
     (0x10064D3, .kbcCmdWriteAuxOutbuf),
     (0x10064D4, .kbcCmdWriteToMouse),
     (0x10064DD, .kbcCmdA20Disable),
     (0x10064DF, .kbcCmdA20Enable),
     (0x10064FE, .kbcCmdSystemResetUnimpl)] := by decide

/-- Words of the controller commands (R110). -/
theorem test_decode_kbc_commands_b : Decodes
    [(0x10064FD, .kbcCmdPulseNop 0xFD),
     (0x10064EF, .kbcCmdUnsupported 0xEF)] := by decide

/-- Words of the port 0x60 and the status read (R111, R112). -/
theorem test_decode_kbc_port60 : Decodes
    [(0x0006400, .kbcStatusR),
     (0x0006000, .kbcDataREmpty)] := by decide

/-- Words of the bytes for the keyboard device (R111). -/
theorem test_decode_kbd_bytes : Decodes
    [(0x10060ED, .kbdCmdSetLeds),
     (0x10060EE, .kbdCmdEcho),
     (0x10060F0, .kbdCmdSelectScancodeSet),
     (0x10060F2, .kbdCmdIdentify),
     (0x10060F3, .kbdCmdSetTypematic),
     (0x10060F4, .kbdCmdEnableScanning),
     (0x10060F5, .kbdCmdResetDisable),
     (0x10060F6, .kbdCmdResetEnable),
     (0x10060FE, .kbdCmdResend),
     (0x10060FF, .kbdCmdResetBat),
     (0x10060F1, .kbdCmdUnrecognized 0xF1)] := by decide

/-! Rows that a state bit selects (R112): the same words mean something else in the reset context. -/

theorem test_decode_pic0_icw2 : DecodesIn { resetCtx with masterIcw := some .icw2 }
    [(0x100214D, .pic0Icw2 0x4D)] := by decide

theorem test_decode_pic0_icw3 : DecodesIn { resetCtx with masterIcw := some .icw3 }
    [(0x1002100, .pic0Icw3 0x00)] := by decide

theorem test_decode_pic0_icw4 : DecodesIn { resetCtx with masterIcw := some .icw4 }
    [(0x1002147, .pic0Icw4 0x47)] := by decide

theorem test_decode_pic0_poll_cmd : DecodesIn { resetCtx with masterPolled := true }
    [(0x0002000, .pic0PollCmd), (0x0002100, .pic0PollMask)] := by decide

theorem test_decode_pic1_icw2 : DecodesIn { resetCtx with slaveIcw := some .icw2 }
    [(0x100A196, .pic1Icw2 0x96)] := by decide

theorem test_decode_pic1_icw3 : DecodesIn { resetCtx with slaveIcw := some .icw3 }
    [(0x100A145, .pic1Icw3 0x45)] := by decide

theorem test_decode_pic1_icw4 : DecodesIn { resetCtx with slaveIcw := some .icw4 }
    [(0x100A118, .pic1Icw4 0x18)] := by decide

theorem test_decode_pic1_poll_cmd : DecodesIn { resetCtx with slavePolled := true }
    [(0x000A000, .pic1PollCmd), (0x000A100, .pic1PollMask)] := by decide

theorem test_decode_kbc_data_r_aux : DecodesIn { resetCtx with auxb := true, outb := true }
    [(0x0006000, .kbcDataRAux)] := by decide

theorem test_decode_kbc_data_r_kbd : DecodesIn { resetCtx with outb := true }
    [(0x0006000, .kbcDataRKbd)] := by decide

theorem test_decode_kbc_arg_config : DecodesIn { resetCtx with expecting := true, lastComm := 0x60 }
    [(0x100609A, .kbcArgConfig 0x9A)] := by decide

theorem test_decode_kbc_arg_outport : DecodesIn { resetCtx with expecting := true, lastComm := 0xD1 }
    [(0x10060B9, .kbcArgOutport 0xB9)] := by decide

theorem test_decode_kbc_arg_kbd_outbuf : DecodesIn { resetCtx with expecting := true, lastComm := 0xD2 }
    [(0x100603C, .kbcArgKbdOutbuf 0x3C)] := by decide

theorem test_decode_kbc_arg_aux_outbuf : DecodesIn { resetCtx with expecting := true, lastComm := 0xD3 }
    [(0x1006013, .kbcArgAuxOutbuf 0x13)] := by decide

theorem test_decode_kbc_arg_to_mouse : DecodesIn { resetCtx with expecting := true, lastComm := 0xD4 }
    [(0x100606E, .kbcArgToMouse 0x6E)] := by decide

theorem test_decode_kbc_arg_unexpected : DecodesIn { resetCtx with expecting := true, lastComm := 0xAE }
    [(0x10060BD, .kbcArgUnexpected 0xBD)] := by decide

theorem test_decode_kbd_arg_typematic : DecodesIn { resetCtx with typematic := true }
    [(0x10060B0, .kbdArgTypematic 0xB0)] := by decide

theorem test_decode_kbd_arg_led : DecodesIn { resetCtx with led := true }
    [(0x1006037, .kbdArgLed 0x37)] := by decide

theorem test_decode_kbd_arg_scancode_set : DecodesIn { resetCtx with scancodeSet := true }
    [(0x1006082, .kbdArgScancodeSet 0x82)] := by decide

/-- Words of wide accesses and signals (R117), with their operand words above bit 31 (notes/assumptions/3.md). -/
theorem test_decode_wide_and_signals : DecodesIn resetCtx
    [(0x0000000002002000, .inw 0x20),
     (0x0000123403002100, .outw 0x21 0x1234),
     (0x0000000004006000, .ind 0x60),
     (0xAAAAAAAA05006400, .outd 0x64 0xAAAAAAAA),
     (0x0000000C0E000000, .setIrq 12),
     (0x0000000F0E000001, .clearIrq 15),
     (0x000000060E000002, .requestIrqNumber .ata0),
     (0x000000630E000002, .requestIrqNumber (.other 99)),
     (0x0E000003, .interruptAcknowledge),
     (0x00000001000000020E000004, .registerChannel 2 ⟨false, true⟩),
     (0x00000001000000050E000005, .setDmaRequest 5 true),
     (0x0E000006, .acknowledgeBusHold),
     (0x0E000007, .update),
     (0x00000003000000200E000008, .keyEvent 0x20 .release .left),
     (0x0E000009, .reset)] := by decide

/-- Packets that are no operation are rejected by name. -/
theorem test_decode_rejects :
    [0x1000000001002011, 0x06002000, 0x01002211, 0x0E00000A, 0x0F000000, 0x01001000, 0x0000000101002011,
      0x000000100E000000, 0x11002011].map (fun n => (decode resetCtx (BitVec.ofNat 96 n)).toOption) =
    List.replicate 9 none ∧
    decode resetCtx (BitVec.ofNat 96 0x11002011) = .error .reservedBits ∧
    decode resetCtx (BitVec.ofNat 96 0x06002000) = .error (.unusedClass 3) ∧
    decode resetCtx (BitVec.ofNat 96 0x01002211) = .error (.unownedPort 0x22) ∧
    decode resetCtx (BitVec.ofNat 96 0x0E00000A) = .error (.unknownSignal 0x0A) ∧
    decode resetCtx (BitVec.ofNat 96 0x0000000101002011) = .error .unusedOperandBits ∧
    decode resetCtx (BitVec.ofNat 96 0x000000100E000000) = .error .argumentOutOfRange := by
  refine ⟨by decide, rfl, rfl, rfl, rfl, rfl, rfl⟩

/-- The first step after reset runs the word placed by the interface (P5 step 1). -/
theorem test_step_runs_the_placed_word :
    gives (step (State.reset.withFetchWord 32 0x10064AA)) (fun t => t.kbc.kbdOutputBuffer == 0x55 && t.kbc.outb) =
      true := by decide

/-! ## Single operations of the PIC pair: the results of 95_test_vectors.md -/

/-- V1: a masked request latches nothing. -/
theorem test_set_irq_masked :
    gives (exec (.setIrq 1) State.reset) (fun t => t.master.irr == 0x02 && t.master.irqPin == 0x02 && !t.intr) =
      true := by decide

/-- V1: unmasking latches it. -/
theorem test_ocw1_latches :
    gives (exec (.pic0Ocw1 0xFD) (masterBits 0x02 0x00 0xFF))
      (fun t => t.master.currentIrq == 1 && t.master.intRequestPin && t.intr) = true := by decide

/-- V9: the pin falls, the latched request stays. -/
theorem test_clear_irq :
    gives (exec (.clearIrq 1) (withMaster fun p => { p with irr := 0x02, irqPin := 0x02, intRequestPin := true }))
      (fun t => t.master.irr == 0 && t.master.irqPin == 0 && t.master.intRequestPin) = true := by decide

/-- T4, i = 7: a slave request reaches the CPU through master input 2. -/
theorem test_set_irq_cascade :
    gives (exec (.setIrq 15) picReady)
      (fun t => t.slave.irr == 0x80 && t.slave.currentIrq == 7 && t.master.irr == 0x04 && t.master.currentIrq == 2 &&
        t.intr) = true := by decide

/-- P1 step 13: acknowledge, and a higher request nests. -/
theorem test_acknowledge_nests :
    gives (exec .interruptAcknowledge
        (withMaster fun p => { p with irr := 0x03, currentIrq := 1, intRequestPin := true }))
      (fun t => t.reply == .vector 0x09 && t.master.irr == 0x01 && t.master.isr == 0x02 && t.master.currentIrq == 0 &&
        t.intr) = true := by decide

/-- V10: the slave's spurious vector. -/
theorem test_acknowledge_slave_spurious :
    gives (exec .interruptAcknowledge
        (withMaster fun p => { p with irr := 0x04, irqPin := 0x04, currentIrq := 2, intRequestPin := true }))
      (fun t => t.reply == .vector 0x77 && t.master.isr == 0x04 && t.master.irqPin == 0 && t.slave.isr == 0) =
      true := by decide

/-- V22. -/
theorem test_irq_numbers :
    gives (exec (.requestIrqNumber .ata2) State.reset) (·.reply == .irqNumber 11) = true ∧
    gives (exec (.requestIrqNumber (.other 77)) State.reset) (·.reply == .irqUnsupported) = true := by decide

/-- V20: ICW1 drops the latched request and keeps the pin. -/
theorem test_icw1 :
    gives (exec (.pic0Icw1 0x11)
        { withMaster (fun p => { p with irr := 0x02, irqPin := 0x02, intRequestPin := true }) with intr := true })
      (fun t => t.master.irr == 0 && !t.intr && t.master.irqPin == 0x02 && t.master.inInit) = true ∧
    gives (exec (.pic1Icw1 0x19) (withMaster fun p => { p with irqPin := 0x06 }))
      (fun t => t.master.irqPin == 0x02 && t.slave.levelMode && !t.slave.icw1Single) = true := by decide

/-- V19: ICW2 keeps bits 7:3, ICW4 without the 8086 bit is logged. -/
theorem test_icw2_icw4 :
    gives (exec (.pic1Icw2 0x73) State.reset) (fun t => t.slave.offset == 0x70 && t.slave.byteExpected == .icw3) = true ∧
    gives (exec (.pic0Icw4 0x00) (withMaster fun p => { p with inInit := true }))
      (fun t => !t.master.inInit && !t.master.autoEoi && t.log == [.picNot8086 .master]) = true := by decide

/-- V18: a single-controller sequence ends with ICW3. -/
theorem test_icw3 :
    gives (exec (.pic0Icw3 0x00) (withMaster fun p => { p with inInit := true, icw1Single := true }))
      (fun t => !t.master.inInit) = true ∧
    gives (exec (.pic1Icw3 0x02) (withSlave fun p => { p with inInit := true }))
      (fun t => t.slave.inInit && t.slave.byteExpected == .icw4) = true := by decide

/-- V3: the EOI lets the waiting request through. -/
theorem test_eoi :
    gives (exec .pic0Eoi (masterBits 0x20 0x08 0x00)) (fun t => t.master.isr == 0 && t.master.currentIrq == 5 && t.intr) =
      true := by decide

/-- P3 steps 8 and 10. -/
theorem test_eoi_rotate :
    gives (exec .pic0EoiRotate (masterBits 0x20 0x08 0x00))
      (fun t => t.master.isr == 0 && t.master.lowestPriority == 0 && t.master.currentIrq == 5) = true ∧
    gives (exec (.pic0SeoiRotate 5) (masterBits 0x00 0x20 0x00))
      (fun t => t.master.isr == 0 && t.master.lowestPriority == 5) = true := by decide

/-- V4, V7: specific EOI; set priority runs no service. -/
theorem test_seoi_and_set_priority :
    gives (exec (.pic0Seoi 4) (masterBits 0x00 0x12 0x00)) (·.master.isr == 0x02) = true ∧
    gives (exec (.pic0SetPriority 4) (masterBits 0x20 0x08 0x00))
      (fun t => t.master.lowestPriority == 4 && !t.intr) = true := by decide

/-- V12: special mask lifts the in-service restriction. -/
theorem test_special_mask :
    gives (exec (.pic0Ocw3 0x68) (masterBits 0x20 0x08 0x08))
      (fun t => t.master.specialMask && t.master.currentIrq == 5 && t.intr) = true := by decide

/-- V16, V17: a polled read, and the register select. -/
theorem test_pic_reads :
    gives (exec .pic0PollCmd (withMaster fun p => { p with isr := 0x02, currentIrq := 1, polled := true }))
      (fun t => t.reply == .byte 0x01 && t.master.isr == 0 && !t.master.polled) = true ∧
    gives (exec .pic0ReadCmd (masterBits 0x40 0x02 0x00)) (·.reply == .byte 0x40) = true ∧
    gives (exec .pic0ReadCmd (withMaster fun p => { p with irr := 0x40, isr := 0x02, readIsrSelect := true }))
      (·.reply == .byte 0x02) = true ∧
    gives (exec .pic1ReadMask State.reset) (·.reply == .byte 0xFF) = true := by decide

/-! ## Single operations of the DMA pair -/

/-- T1 step 3: unmasking the cascade channel raises HRQ. -/
theorem test_single_mask_raises_hrq :
    gives (exec (.dma1SingleMaskW 0x00)
        { State.reset with dma1 := { State.reset.dma1 with status := 0x10, drq := (Quad.all false).set .c0 true } })
      (fun t => t.hrq && !t.dma1.mask.q0 && t.dma1.mask.q1) = true := by decide

/-- T1 step 6: a disabled controller 0 withdraws its request. -/
theorem test_command_disables :
    gives (exec (.dma0CommandW 0x04) (floppyState 2 0x46))
      (fun t => t.dma0.disabled && t.dma1.status == 0 && !t.hrq && t.log == []) = true := by decide

/-- V26: master clear forgets the request, not the line. -/
theorem test_master_clear :
    gives (exec (.dma1MasterClear 0x00) (wordState 1 0x79))
      (fun t => t.dma1.status == 0 && !t.hrq && t.dma1.mask == Quad.all true && t.dma1.drq.q1) = true := by decide

/-- V29: the flip-flop is shared by the channels. -/
theorem test_address_write_high :
    gives (exec (.dma0Addr1W 0x12) { State.reset with dma0 := { State.reset.dma0 with flipflop := true } })
      (fun t => t.dma0.chan.q1.curAddr == 0x1200 && t.dma0.chan.q1.baseAddr == 0x1200 && !t.dma0.flipflop) =
      true := by decide

/-- T7: the low byte is read first. -/
theorem test_address_read_low :
    gives (exec .dma1Addr1R (wordState 1 0x79)) (fun t => t.reply == .byte 0x34 && t.dma1.flipflop) = true := by decide

/-- V24: the mode byte 0x79. -/
theorem test_mode_write :
    gives (exec (.dma1ModeW 0x79) State.reset)
      (fun t => t.dma1.chan.q1.mode == ⟨.readFromMemory, true, true, .single⟩) = true := by decide

/-- P4 step 16: the status read clears the terminal-count bits. -/
theorem test_status_read :
    gives (exec .dma0StatusR { State.reset with dma0 := { State.reset.dma0 with status := 0x44 } })
      (fun t => t.reply == .byte 0x44 && t.dma0.status == 0x40) = true := by decide

/-- V33: pages and extra slots. -/
theorem test_pages :
    gives (exec (.dmaPageG3W 0x44) State.reset) (fun t => t.dma0.chan.q3.page == 0x44) = true ∧
    gives (exec (.dmaPageG7W 0x88) State.reset) (fun t => t.dma1.chan.q3.page == 0x88) = true ∧
    gives (exec (.dmaExtpage80W 0xAB) State.reset) (fun t => t.ext.p80 == 0xAB) = true := by decide

/-- V34: a write-only register does not read, and a request write is logged. -/
theorem test_write_only :
    gives (exec .dma1WriteOnlyRF State.reset) (·.reply == .raised (.writeOnlyPortRead 0xDE)) = true ∧
    gives (exec (.dma0RequestW 0x06) State.reset) (fun t => t.log == [.dmaRequestWrite .dma0] && t.dma0.status == 0) =
      true := by decide

/-- P4 step 12: the request reaches the CPU through the cascade. -/
theorem test_dma_request :
    gives (exec (.setDmaRequest 2 true)
        { floppyState 2 0x46 with
          hrq := false
          dma0 := { (floppyState 2 0x46).dma0 with status := 0x00, drq := Quad.all false }
          dma1 := { (floppyState 2 0x46).dma1 with status := 0x00, drq := Quad.all false } })
      (fun t => t.dma0.status == 0x40 && t.dma1.status == 0x10 && t.hrq) = true := by decide

/-- P4 step 13: a byte from the device to memory. -/
theorem test_grant_byte :
    gives (exec .acknowledgeBusHold (floppyState 2 0x46))
      (fun t => t.env.mem == [(0x021000, 0xE5)] && t.dma0.chan.q2.curAddr == 0x1001 && t.dma0.chan.q2.curCount == 1 &&
        t.dma1.dack.q0 && t.dma0.dack.q2 && t.hlda && t.hrq) = true := by decide

/-- P4 step 15: terminal count masks the channel and releases the bus. -/
theorem test_grant_terminal_count :
    gives (exec .acknowledgeBusHold (floppyState 0 0x46))
      (fun t => t.dma0.status == 0x44 && t.dma0.chan.q2.curCount == 0xFFFF && t.dma0.mask == Quad.all true &&
        t.dma1.status == 0 && !t.hlda && !t.tc && !t.hrq && t.outputs == [.devToMem .dma0 .c2 true]) = true := by decide

/-- V24: a word from memory to the device, decrementing; at terminal count the channel reloads. -/
theorem test_grant_word :
    gives (exec .acknowledgeBusHold (wordState 1 0x79))
      (fun t => t.outputs == [.memToDev .dma1 .c1 0x2211 false] && t.dma1.chan.q1.curAddr == 0x1233 &&
        t.dma1.chan.q1.curCount == 0) = true ∧
    gives (exec .acknowledgeBusHold (wordState 0 0x79))
      (fun t => t.dma1.status == 0x22 && t.dma1.chan.q1.curAddr == 0x1234 && !t.dma1.mask.q1 && !t.hrq) = true := by decide

/-- 10_state.md R34: a grant moves the acknowledge to the channel it serves. -/
theorem test_grant_moves_the_acknowledge :
    (let s := wordState 1 0x79;
      gives (exec .acknowledgeBusHold { s with dma1 := { s.dma1 with dack := ⟨true, false, false, false⟩ } })
        (·.dma1.dack == ⟨false, true, false, false⟩)) = true := by decide

/-- V32. -/
theorem test_registration :
    gives (exec (.registerChannel 2 ⟨true, true⟩) State.reset)
      (fun t => t.reply == .registered true && t.dma0.chan.q2.inUse) = true ∧
    gives (exec (.registerChannel 4 ⟨true, true⟩) State.reset) (·.reply == .registered false) = true ∧
    gives (exec (.registerChannel 8 ⟨true, true⟩) State.reset) (·.reply == .registered false) = true := by decide

/-! ## Single operations of the keyboard controller and the keyboard device -/

/-- V35, V42: the status byte. -/
theorem test_status_byte :
    gives (exec .kbcStatusR State.reset) (·.reply == .byte 0x18) = true ∧
    gives (exec .kbcStatusR (withKbc fun k => { k with tim := true })) (fun t => t.reply == .byte 0x58 && !t.kbc.tim) =
      true := by decide

/-- V35: the self-test. -/
theorem test_self_test :
    gives (exec .kbcCmdSelfTest State.reset)
      (fun t => t.kbc.kbdOutputBuffer == 0x55 && t.kbc.outb && t.kbc.sysf && t.kbc.irq1Requested) = true := by decide

/-- V36: the config byte, and its refusal. -/
theorem test_read_config :
    gives (exec .kbcCmdReadConfig State.reset) (fun t => t.kbc.kbdOutputBuffer == 0x63) = true ∧
    gives (exec .kbcCmdReadConfig (withKbc fun k => { k with outb := true }))
      (fun t => t.kbc.q == [] && t.log == [.kbcOutputBufferFull]) = true := by decide

/-- V36: the output port byte is queued behind a full buffer. -/
theorem test_read_outport :
    gives (exec .kbcCmdReadOutport (withKbc fun k => { k with outb := true, q := [0xFF], irq1Requested := true }))
      (fun t => t.kbc.q == [0xFF, 0x13]) = true := by decide

/-- V36: a read of port 0x60 refills from the queue. -/
theorem test_data_read_refills :
    gives (exec .kbcDataRKbd (withKbc fun k => { k with outb := true, q := [0xFF, 0x13] }))
      (fun t => t.reply == .byte 0x00 && t.kbc.kbdOutputBuffer == 0xFF && t.kbc.outb && t.kbc.q == [0x13]) =
      true := by decide

/-- V39: the mouse path, and IRQ 12 falls. -/
theorem test_data_read_aux :
    gives (exec .kbcDataRAux
        { withKbc (fun k => { k with outb := true, auxb := true, auxOutputBuffer := 0x5A }) with
          slave := { State.reset.slave with irr := 0x10, irqPin := 0x10 } })
      (fun t => t.reply == .byte 0x5A && !t.kbc.outb && !t.kbc.auxb && t.slave.irr == 0 && t.kbc.timerPending) =
      true := by decide

/-- T9. -/
theorem test_data_read_empty :
    gives (exec .kbcDataREmpty (withKbc fun k => { k with kbdOutputBuffer := 0xAA }))
      (fun t => t.reply == .byte 0xAA && t.log == [.kbcReadOfEmptyBuffer]) = true := by decide

/-- V37: the config byte is written. -/
theorem test_write_config :
    gives (exec (.kbcArgConfig 0x34) State.reset)
      (fun t => !t.kbc.scancodesTranslate && t.kbc.sysf && !t.kbc.allowIrq1 && !t.kbc.kbdClockEnabled &&
        !t.kbc.auxClockEnabled && !t.kbc.cD) = true := by decide

/-- V38. -/
theorem test_write_outport :
    gives (exec (.kbcArgOutport 0xDC) State.reset) (fun t => !t.env.a20 && t.outputs == [.cpuResetRequest]) = true ∧
    gives (exec .kbcCmdA20Disable State.reset) (fun t => !t.env.a20) = true := by decide

/-- V39, V44: an injected mouse byte, a byte for the mouse. -/
theorem test_mouse_arguments :
    gives (exec (.kbcArgAuxOutbuf 0x5A) State.reset)
      (fun t => t.kbc.auxOutputBuffer == 0x5A && t.kbc.outb && t.kbc.auxb && t.kbc.irq12Requested) = true ∧
    gives (exec (.kbcArgToMouse 0xF4) State.reset) (·.outputs == [.mouseControl 0xF4]) = true := by decide

/-- V41, V43: a command ends an argument, and an unsupported one is logged. -/
theorem test_commands :
    gives (exec .kbcCmdKbdEnable (withKbc fun k => { k with expectingPort60h := true }))
      (fun t => !t.kbc.expectingPort60h && t.kbc.lastComm == 0xAE && t.kbc.cD) = true ∧
    gives (exec (.kbcCmdUnsupported 0xC0) State.reset)
      (fun t => t.kbc.lastComm == 0xC0 && t.log == [.kbcUnsupportedCommand 0xC0]) = true := by decide

/-- T5 step 2 and V35: a tick fetches a byte, the next one raises its IRQ. -/
theorem test_update :
    gives (exec .update
        { withKbd (fun k => { k with buf := [0xFA, 0xAA] }) with kbc := { State.reset.kbc with timerPending := true } })
      (fun t => t.reply == .pollCode 0 && t.kbc.kbdOutputBuffer == 0xFA && t.kbc.irq1Requested &&
        t.kbd.buf == [0xAA] && !t.kbc.timerPending) = true ∧
    gives (exec .update (withKbc fun k => { k with irq1Requested := true, outb := true }))
      (fun t => t.reply == .pollCode 1 && t.master.irr == 0x02 && !t.kbc.irq1Requested) = true := by decide

/-- T5 step 1: reset with BAT. -/
theorem test_reset_bat :
    gives (exec .kbdCmdResetBat (withKbd fun k => { k with buf := [0xEE] }))
      (fun t => t.kbd.buf == [0xFA, 0xAA] && t.kbc.batInProgress && t.kbc.timerPending && !t.kbc.cD) = true := by decide

/-- T6 step 2: the LED byte. -/
theorem test_led_byte :
    gives (exec (.kbdArgLed 0x07) (withKbd fun k => { k with expectingLedWrite := true, buf := [0xFA] }))
      (fun t => t.outputs == [.notify .num true, .notify .caps true, .notify .scroll true] &&
        t.kbd.ledStatus == 0x07 && t.kbd.buf == [0xFA, 0xFA] && !t.kbd.expectingLedWrite) = true := by decide

/-- V45: identify re-enables the clock. -/
theorem test_identify :
    gives (exec .kbdCmdIdentify (withKbc fun k => { k with kbdClockEnabled := false }))
      (fun t => t.kbc.kbdClockEnabled && t.kbd.buf == [0xFA, 0xAB, 0x41]) = true := by decide

/-- V46: the scancode-set selector. -/
theorem test_scancode_set :
    gives (exec (.kbdArgScancodeSet 0x00) State.reset) (·.kbd.buf == [0xFA, 0x02]) = true ∧
    gives (exec (.kbdArgScancodeSet 0x03) State.reset) (fun t => t.kbc.currentScancodeSet == 3 && t.kbd.buf == [0xFA]) =
      true ∧
    gives (exec (.kbdArgScancodeSet 0x04) State.reset)
      (fun t => t.kbc.currentScancodeSet == 2 && t.kbd.buf == [0xFF]) = true := by decide

/-- V47, V48: typematic, and a full reset. -/
theorem test_typematic_and_reset :
    gives (exec (.kbdArgTypematic 0x7F) State.reset) (fun t => t.kbd.delay == 3 && t.kbd.repeatRate == 0x1F) = true ∧
    gives (exec .kbdCmdResetDisable (withKbd fun k => { k with delay := 3, buf := [0xFA, 0xFA] }))
      (fun t => t.kbd.buf == [0xFA] && t.kbd.delay == 1 && !t.kbd.scanningEnabled) = true := by decide

/-- 30_encoding.md R114, 43_kbd_device.md R346: an unrecognized command is answered 0xFE and logged. -/
theorem test_unrecognized_command :
    gives (exec (.kbdCmdUnrecognized 0x05) State.reset)
      (fun t => t.kbd.buf == [0xFE] && t.log == [.kbdUnrecognizedCommand 0x05]) = true := by decide

/-- V50: the seventeenth byte is dropped. -/
theorem test_buffer_full :
    gives (exec .kbdCmdEcho (withKbd fun k => { k with buf := List.replicate 16 0xEE }))
      (fun t => t.kbd.buf.length == 16 && t.log == [.kbdBufferFull]) = true := by decide

/-- V48: a key event is dropped while scanning is off. -/
theorem test_key_dropped :
    gives (exec (.keyEvent 0x20 .press .standard) (withKbd fun k => { k with scanningEnabled := false }))
      (·.kbd.buf == []) = true := by decide

/-- V52, V54: a wide read takes nothing away, and reset restores the block. -/
theorem test_wide_and_reset :
    gives (exec (.inw 0x08) { State.reset with dma0 := { State.reset.dma0 with status := 0x44 } })
      (fun t => t.reply == .word 0xFFFF && t.dma0.status == 0x44) = true ∧
    gives (exec .reset (floppyState 2 0x46)) (fun t => t.dma0 == State.reset.dma0 && !t.hrq) = true := by decide

/-! ## Witnesses: the hypotheses of each statement can be met, clause by clause and at the ends of ranges -/

theorem test_witness_encode_then_decode :
    wellFormed (.kbcCmdPulseNop 0xFF) = true ∧ selectedIn resetCtx (.kbcCmdPulseNop 0xFF) = true ∧
    selectedIn { resetCtx with masterIcw := some .icw4 } (.pic0Icw4 0x03) = true ∧
    wellFormed (.pic0Icw4 0x03) = true := by decide

theorem test_witness_owned_ports :
    [0x0000, 0x000F, 0x0060, 0x0064, 0x0080, 0x008F, 0x00A1, 0x00C0, 0x00DE].all ownedPort = true ∧
    [0x0010, 0x0022, 0x0065, 0x007F, 0x0090, 0x00C1, 0x00DF, 0x00E0, 0x0100, 0xFFFF].all (fun p => !ownedPort p) =
      true := by decide

/-- The state whose oldest event is this operation. -/
def awaiting (n : Nat) : State := { State.reset with inbox := [.op (BitVec.ofNat 96 n)] }

theorem test_witness_step_performs :
    (awaiting 0x10064AA).inbox = [.op (BitVec.ofNat 96 0x10064AA)] ∧
    decode (awaiting 0x10064AA).decodeCtx (BitVec.ofNat 96 0x10064AA) = .ok .kbcCmdSelfTest ∧
    (awaiting 0x10064AA).routes (BitVec.ofNat 96 0x10064AA) = true := ⟨rfl, rfl, rfl⟩

theorem test_witness_step_without_an_operation :
    State.reset.inbox = [] ∧
    decode (awaiting 0x06002000).decodeCtx (BitVec.ofNat 96 0x06002000) = .error (.unusedClass 3) ∧
    (let s : State := { awaiting 0x10064AA with env := { Env.atPowerOn with granted := [0x60], foreign := [0x64] } };
      decode s.decodeCtx (BitVec.ofNat 96 0x10064AA) = .ok .kbcCmdSelfTest ∧
      packetPort (BitVec.ofNat 96 0x10064AA) = some 0x64 ∧ (0x64 : PortNo) ∉ s.env.granted) ∧
    (∀ p, Event.mouseByte 0x08 ≠ .op p) := ⟨rfl, rfl, ⟨rfl, rfl, by decide⟩, fun _ h => nomatch h⟩

theorem test_witness_port_claims :
    (0xDE : PortNo) ∈ Env.atPowerOn.granted ∧ (0x3F8 : PortNo) ∉ Env.atPowerOn.granted ∧
    (0x3F8 : PortNo) ∉ Env.atPowerOn.foreign ∧
    (0x3F8 : PortNo) ∈ (claimPort 0x3F8 Env.atPowerOn).foreign := by decide

/-- The reset state meets the invariant. -/
theorem reset_inv : State.reset.Inv where
  offsets := by rintro (_ | _) <;> rfl
  interruptLine := rfl
  disabledFlag := by rintro (_ | _) <;> rfl
  requestHeld := by rintro (_ | _) (_ | _ | _ | _) <;> decide
  cascadeReserved := ⟨rfl, rfl⟩
  oneAcknowledge := by rintro (_ | _) (_ | _ | _ | _) _ h <;> cases h
  terminalCountLow := rfl
  auxPending := by decide
  scancodeSet := by decide
  argumentAwaited := by decide
  deviceBuffer := by decide
  oneSubState := by decide
  portOwners := fun _ _ => List.not_mem_nil
  memory := rfl

theorem test_witness_step_keeps_the_invariant : ∃ t, (awaiting 0x10064AA).Inv ∧ step (awaiting 0x10064AA) = .next t :=
  ⟨_, ⟨reset_inv.1, reset_inv.2, reset_inv.3, reset_inv.4, reset_inv.5, reset_inv.6, reset_inv.7, reset_inv.8,
    reset_inv.9, reset_inv.10, reset_inv.11, reset_inv.12,
    reset_inv.13, reset_inv.14⟩, rfl⟩

theorem test_witness_failures :
    gives (exec .dma0WriteOnlyR9 State.reset) (·.reply == .raised (.writeOnlyPortRead 0x09)) = true ∧
    gives (exec (.kbcArgUnexpected 0x00) State.reset) (·.reply == .raised (.unknownPort 0x60)) = true := by decide

theorem test_witness_few_writers :
    (∃ t, exec (.setIrq 1) State.reset = .next t) ∧ Instr.setIrq 1 ≠ .acknowledgeBusHold ∧
    Instr.setIrq 1 ≠ .kbcCmdA20Disable ∧ Instr.setIrq 1 ≠ .kbcCmdA20Enable ∧
    ∀ data, Instr.setIrq 1 ≠ .kbcArgOutport data :=
  ⟨⟨_, rfl⟩, by decide, by decide, by decide, fun _ h => nomatch h⟩

theorem test_witness_ports_reach :
    (encodeFields (.pic1Ocw1 0x00)).cls = 0 ∧ picPort (encodeFields (.pic1Ocw1 0x00)).port = true ∧
    (encodeFields .kbcStatusR).cls = 0 ∧ kbcPort (encodeFields .kbcStatusR).port = true ∧
    (encodeFields .dma1WriteOnlyRF).cls = 0 ∧ picPort (encodeFields .dma1WriteOnlyRF).port = false ∧
    kbcPort (encodeFields .dma1WriteOnlyRF).port = false ∧
    (∃ t, exec (.pic1Ocw1 0x00) State.reset = .next t) ∧ (∃ t, exec .kbcStatusR State.reset = .next t) ∧
    ∃ t, exec .dma1WriteOnlyRF State.reset = .next t :=
  ⟨rfl, rfl, rfl, rfl, rfl, rfl, rfl, ⟨_, rfl⟩, ⟨_, rfl⟩, ⟨_, rfl⟩⟩

/-! ### PIC -/

theorem test_witness_service_latched : (withMaster fun p => { p with intRequestPin := true }).master.intRequestPin = true :=
  rfl

theorem test_witness_service_nothing : ∀ i, ¬State.reset.master.Dispatchable i := by
  unfold Pic.Dispatchable
  decide

/-- Requests 3 and 7 with input 3 lowest: input 7 goes first, also ahead of input 3 in service. -/
theorem test_witness_service_latches :
    let p := (withMaster fun p => { p with irr := 0x88, isr := 0x08, lowestPriority := 3 }).master
    p.intRequestPin = false ∧ p.Dispatchable 7 ∧ ∀ k, p.Dispatchable k → p.position 7 ≤ p.position k := by
  unfold Pic.Dispatchable Pic.position
  decide

theorem test_witness_clear_highest :
    (masterBits 0 0 0).master.isr = 0 ∧
    (let p := (withMaster fun p => { p with isr := 0x81, lowestPriority := 0 }).master;
      bitAt p.isr 7 = true ∧ ∀ k, bitAt p.isr k = true → p.position 7 ≤ p.position k) := by
  unfold Pic.position
  decide

theorem test_witness_request_pins :
    (15 : BitVec 4) = 1#1 ++ (7 : Input) ∧ bitAt (withSlave fun p => { p with irqPin := 0x80 }).slave.irqPin 7 = true ∧
    bitAt State.reset.slave.irqPin 7 = false ∧
    (0 : BitVec 4) = 0#1 ++ (0 : Input) ∧ bitAt (withMaster fun p => { p with irqPin := 0x01 }).master.irqPin 0 = true ∧
    bitAt State.reset.master.irqPin 0 = false := by decide

theorem test_witness_slave_request :
    (bitAt picReady.slave.irqPin 7 = false ∧ bitAt picReady.slave.imr 7 = false ∧
      picReady.slave.intRequestPin = false ∧
      (∀ k, bitAt picReady.slave.isr k = true → picReady.slave.position 7 < picReady.slave.position k) ∧
      bitAt picReady.master.irqPin 2 = false) ∧
    picReady.master.intRequestPin = false ∧ picReady.master.irr = 0 ∧ picReady.master.isr = 0 ∧
    bitAt picReady.master.imr 2 = false := by decide

/-- The other two forms: behind an in-service input of lower priority, and under special mask. -/
theorem test_witness_slave_request_nested :
    (∀ k, bitAt (withSlave fun p => { p with isr := 0x80 }).slave.isr k = true →
      (withSlave fun p => { p with isr := 0x80 }).slave.position 6 <
        (withSlave fun p => { p with isr := 0x80 }).slave.position k) ∧
    (withSlave fun p => { p with isr := 0x01, specialMask := true }).slave.specialMask = true := by
  unfold Pic.position
  decide

theorem test_witness_acknowledge :
    State.reset.master.irr = 0 ∧
    (let m := (withMaster fun p => { p with irr := 0x80, currentIrq := 7 }).master;
      m.irr ≠ 0 ∧ m.currentIrq ≠ 2) ∧
    (let s := withMaster fun p => { p with irr := 0x04, currentIrq := 2 };
      s.master.irr ≠ 0 ∧ s.master.currentIrq = 2 ∧ s.slave.irr = 0) ∧
    (let s : State := { withMaster (fun p => { p with irr := 0x04, currentIrq := 2 }) with
        slave := { picReady.slave with irr := 0x01 } };
      s.master.irr ≠ 0 ∧ s.master.currentIrq = 2 ∧ s.slave.irr ≠ 0) := by decide

theorem test_witness_irq_numbers :
    ((.pit, 0) : Identity × BitVec 4) ∈ [((.pit, 0) : Identity × BitVec 4), (.ata3, 9)] := by decide

theorem test_witness_ocw3 :
    (0x6C : Byte).getLsbD 2 = true ∧
    ((0x68 : Byte).getLsbD 2 = false ∧ (0x68 : Byte).extractLsb' 5 2 = 3) ∧
    ((0x48 : Byte).getLsbD 2 = false ∧ (0x48 : Byte).extractLsb' 5 2 ≠ 3) := by decide

/-! ### DMA -/

theorem test_witness_registration :
    7 < (8 : BitVec 32).toNat ∧ (State.reset.chan (globalController 4) (globalChan 4)).inUse = true ∧
    (7 : BitVec 32).toNat ≤ 7 ∧
    (State.reset.chan (globalController ((7 : BitVec 32).setWidth 3)) (globalChan ((7 : BitVec 32).setWidth 3))).inUse =
      false := by decide

theorem test_witness_cascade_registration : State.reset.Inv ∧ (4 : BitVec 32) = 4 := ⟨reset_inv, rfl⟩

theorem test_witness_wants : (floppyState 2 0x46).dma1.Wants ∧ (floppyState 2 0x46).dma0.Wants :=
  ⟨⟨rfl, .c0, rfl, rfl⟩, rfl, .c2, rfl, rfl⟩

theorem test_witness_not_wants : ¬State.reset.dma1.Wants ∧ ¬State.reset.dma0.Wants := by
  constructor <;> rintro ⟨-, j, h, -⟩ <;> cases j <;> cases h

/-- A disabled controller does not want the bus, whatever is pending. -/
theorem test_witness_disabled_not_wants : ¬({ (floppyState 2 0x46).dma0 with disabled := true } : Dma).Wants := by
  rintro ⟨h, -⟩
  cases h

theorem test_witness_hold_request :
    Instr.dma0CommandW 0x00 ∈ [Row.commandW .dma0 0x00, Row.singleMaskW .dma0 0x00, Row.masterClear .dma0 0x00,
      Row.clearMask .dma0 0x00, Row.fullMaskW .dma0 0x00, .setDmaRequest 5 true] ∧
    (Instr.dma0CommandW 0x00 = .setDmaRequest 5 true → DmaId.dma0 = globalController 5) ∧
    (Instr.setDmaRequest 7 true = .setDmaRequest 7 true → DmaId.dma1 = globalController 7) := by
  exact ⟨by decide, by decide, by decide⟩

theorem test_witness_write_only :
    ((Row.writeOnlyF .dma1, 0xF) : Instr × Nat) ∈ [(Row.writeOnly9 .dma1, 0x9), (Row.writeOnlyF .dma1, 0xF)] := by decide

theorem test_witness_extra_slots : ExtSlot.x8E ≠ ExtSlot.x80 := by decide

theorem test_witness_grants :
    (floppyState 2 0x46).Grants .dma0 .c2 ∧ ((floppyState 2 0x46).chan .dma0 .c2).curCount ≠ 0 ∧
    (floppyState 0 0x46).Grants .dma0 .c2 ∧ ((floppyState 0 0x46).chan .dma0 .c2).curCount = 0 ∧
    (wordState 1 0x79).Grants .dma1 .c1 ∧ ((wordState 1 0x79).chan .dma1 .c1).curCount ≠ 0 ∧
    (wordState 0 0x79).Grants .dma1 .c1 ∧ ((wordState 0 0x79).chan .dma1 .c1).curCount = 0 := by
  refine ⟨?_, by decide, ?_, by decide, ?_, by decide, ?_, by decide⟩
  · exact ⟨⟨by decide, fun k h => absurd h (Nat.not_lt_zero _)⟩, by decide, fun k => by cases k <;> decide⟩
  · exact ⟨⟨by decide, fun k h => absurd h (Nat.not_lt_zero _)⟩, by decide, fun k => by cases k <;> decide⟩
  · exact ⟨by decide, by decide, fun k => by cases k <;> decide⟩
  · exact ⟨by decide, by decide, fun k => by cases k <;> decide⟩

theorem test_witness_no_grant :
    (∀ j, ¬State.reset.dma1.Selects j) ∧
    (let s : State := { State.reset with dma1 := requesting State.reset.dma1 .c0 0 0xC0 };
      s.dma1.Selects .c0 ∧ ∀ j, ¬s.dma0.Selects j) := by
  have n : ∀ j, ¬State.reset.dma1.Selects j := by
    rintro j ⟨⟨h, -⟩, -⟩
    cases j <;> cases h
  have n' : ∀ j, ¬State.reset.dma0.Selects j := by
    rintro j ⟨⟨h, -⟩, -⟩
    cases j <;> cases h
  exact ⟨n, ⟨⟨rfl, rfl⟩, fun k h => absurd h (Nat.not_lt_zero _)⟩, n'⟩

theorem test_witness_callbacks :
    ((floppyState 2 0x46).dma .dma0).handler.get .c2 = some ⟨true, true⟩ ∧
    ((wordState 1 0x79).dma .dma1).handler.get .c1 = some ⟨true, true⟩ ∧
    (∀ h, (State.reset.dma .dma1).handler.get .c0 = some h → h.devToMem = false ∧ h.memToDev = false) ∧
    (∀ h, (State.reset.dma .dma0).handler.get .c0 = some h → h.devToMem = false ∧ h.memToDev = false) := by
  refine ⟨rfl, rfl, ?_, fun h e => nomatch e⟩
  intro h e
  cases e
  exact ⟨rfl, rfl⟩

theorem test_witness_grant_stores :
    (∃ t, exec .acknowledgeBusHold (floppyState 2 0x46) = .next t) ∧
    ((floppyState 2 0x46).chan .dma0 .c2).mode.transferType = .writeToMemory ∧
    (floppyState 2 0x46).env.mem.wf = true ∧ (floppyState 2 0x46).env.supply .dma0 .c2 = [0x00E5] ∧
    0x021001 ∉ storedBytes .dma0 (physAddr .dma0 ((floppyState 2 0x46).chan .dma0 .c2)) ∧
    ((wordState 1 0x79).chan .dma1 .c1).mode.transferType ≠ .writeToMemory ∧
    (∃ t, exec .acknowledgeBusHold (wordState 1 0x79) = .next t) :=
  ⟨⟨_, rfl⟩, rfl, rfl, rfl, by decide, by decide, ⟨_, rfl⟩⟩

theorem test_witness_release :
    ({ (wordState 1 0x79).dma1 with
      drq := (wordState 1 0x79).dma1.drq.set .c0 false, status := (wordState 1 0x79).dma1.status &&& 0xEF
      dack := (wordState 1 0x79).dma1.dack.set .c0 false } : Dma).Wants ∧
    ¬({ State.reset.dma1 with
      drq := State.reset.dma1.drq.set .c0 false, status := State.reset.dma1.status &&& 0xEF
      dack := State.reset.dma1.dack.set .c0 false } : Dma).Wants := by
  refine ⟨⟨rfl, .c1, rfl, rfl⟩, ?_⟩
  rintro ⟨-, j, h, -⟩
  cases j <;> cases h

theorem test_witness_terminal_count :
    (floppyState 2 0x46).Grants .dma0 .c2 ∧ (wordState 0 0x79).Grants .dma1 .c1 ∧
    0 ≤ ((floppyState 2 0x46).chan .dma0 .c2).curCount.toNat ∧ ((floppyState 2 0x46).chan .dma0 .c2).curCount.toNat = 2 ∧
    ((wordState 0 0x79).chan .dma1 .c1).curCount.toNat = 0 :=
  ⟨test_witness_grants.1, test_witness_grants.2.2.2.2.2.2.1, by decide, rfl, rfl⟩

/-! ### Keyboard controller and device -/

theorem test_witness_output_buffer :
    State.reset.kbc.outb = false ∧ State.reset.kbc.selftestDone = false ∧
    (withKbc fun k => { k with outb := true }).kbc.outb = true ∧
    (withKbc fun k => { k with selftestDone := true }).kbc.selftestDone = true := by decide

theorem test_witness_argument_commands :
    ((.kbcCmdWriteToMouse, 0xD4) : Instr × Byte) ∈ [((.kbcCmdWriteConfig, 0x60) : Instr × Byte),
      (.kbcCmdWriteToMouse, 0xD4)] := by decide

/-- The four clauses of the poll: no re-poll due; due with a full buffer, and with nothing to fetch; a keyboard byte; a
mouse byte while the keyboard has one but its clock is off. -/
theorem test_witness_poll :
    State.reset.kbc.timerPending = false ∧
    (let k := (withKbc fun k => { k with timerPending := true, outb := true }).kbc;
      k.timerPending = true ∧ k.outb = true) ∧
    (let s := withKbc fun k => { k with timerPending := true };
      s.kbc.timerPending = true ∧ ((s.kbc.kbdClockEnabled || s.kbc.batInProgress) && !s.kbd.buf.isEmpty) = false ∧
      (s.kbc.auxClockEnabled && !s.env.mouse.isEmpty) = false) ∧
    (let s : State := { withKbc (fun k => { k with timerPending := true }) with
        kbd := { State.reset.kbd with buf := [0xFA] } };
      s.kbc.timerPending = true ∧ s.kbc.outb = false ∧
      ((s.kbc.kbdClockEnabled || s.kbc.batInProgress) && !s.kbd.buf.isEmpty) = true) ∧
    (let s : State := { withKbc (fun k =>
          { k with timerPending := true, kbdClockEnabled := false, auxClockEnabled := true }) with
        kbd := { State.reset.kbd with buf := [0xFA] }, env := { State.reset.env with mouse := [0x08] } };
      s.kbc.timerPending = true ∧ s.kbc.outb = false ∧
      ((s.kbc.kbdClockEnabled || s.kbc.batInProgress) && !s.kbd.buf.isEmpty) = false ∧
      (s.kbc.auxClockEnabled && !s.env.mouse.isEmpty) = true) := by decide

/-- The device's buffer empty and full, and the selector's ranges at their ends. -/
theorem test_witness_device_bytes :
    State.reset.kbd.buf.length ≤ 16 ∧ (withKbd fun k => { k with buf := List.replicate 16 0xEE }).kbd.buf.length ≤ 16 ∧
    (0x00 : Byte) = 0 ∧ (1 ≤ (0x01 : Byte).toNat ∧ (0x01 : Byte).toNat ≤ 3) ∧
    (1 ≤ (0x03 : Byte).toNat ∧ (0x03 : Byte).toNat ≤ 3) ∧ 3 < (0x04 : Byte).toNat ∧ 3 < (0xFF : Byte).toNat := by decide

theorem test_witness_key_event :
    (withKbd fun k => { k with scanningEnabled := false }).kbd.scanningEnabled = false ∧
    State.reset.kbd.scanningEnabled = true ∧ State.reset.kbd.buf.length ≤ 16 := by decide

end Sys2Proof.Tests
end

/-! Proofs about the step and about how operations end (spec/00_scope.md R11, R12; 20_memory.md R70). -/

namespace Sys2Proof.Machine

/-! ## The step and the fetch -/

theorem step_of_inbox_nil {s : State} (h : s.inbox = []) : step s = .next s := by
  rw [step, h]

theorem step_of_inbox_cons {s : State} {e : Event} {rest : List Event} (h : s.inbox = e :: rest) :
    step s = handleEvent e { s with inbox := rest } := by
  rw [step, h]

/-- A port that the block was not granted is not routed to it (20_memory.md R70). -/
theorem routes_of_port_not_granted {s : State} {p : Packet} {port : PortNo} (hp : packetPort p = some port)
    (hg : port ∉ s.env.granted) : s.routes p = false := by
  simp [State.routes, hp, hg]

/-- The fetch reads the block's state and the bus, not the events still to come. -/
theorem fetchOperation_inbox (s : State) (l : List Event) (p : Packet) :
    fetchOperation { s with inbox := l } p = fetchOperation s p := rfl

theorem fetchOperation_of_routed {s : State} {p : Packet} {i : Instr} (hd : decode s.decodeCtx p = .ok i)
    (hr : s.routes p = true) : fetchOperation s p = .ok i := by
  simp [fetchOperation, hd, hr]

theorem fetchOperation_of_undecodable {s : State} {p : Packet} {e : DecodeError}
    (hd : decode s.decodeCtx p = .error e) : fetchOperation s p = .error (.undecodable e) := by
  simp [fetchOperation, hd]

theorem fetchOperation_of_not_routed {s : State} {p : Packet} {i : Instr} {port : PortNo}
    (hd : decode s.decodeCtx p = .ok i) (hp : packetPort p = some port) (hg : port ∉ s.env.granted) :
    fetchOperation s p = .error (.notRouted port) := by
  simp [fetchOperation, hd, routes_of_port_not_granted hp hg, hp]

/-- A step at an operation packet does what the fetch, at the state before, decides. -/
theorem step_of_fetch_ok {s : State} {p : Packet} {rest : List Event} {i : Instr} (h : s.inbox = .op p :: rest)
    (hf : fetchOperation s p = .ok i) : step s = exec i { s with inbox := rest } := by
  rw [step_of_inbox_cons h, handleEvent, performOperation, fetchOperation_inbox, hf]

theorem step_of_fetch_error {s : State} {p : Packet} {rest : List Event} {r : Refusal} (h : s.inbox = .op p :: rest)
    (hf : fetchOperation s p = .error r) : step s = .refused r := by
  rw [step_of_inbox_cons h, handleEvent, performOperation, fetchOperation_inbox, hf]

/-! ## The collaborators' moves -/

theorem handleEvent_of_not_op {e : Event} (h : ∀ p, e ≠ .op p) (s : State) :
    handleEvent e s = .next { s with env := collaboratorMove e s.env } := by
  cases e with
  | op p => exact absurd rfl (h p)
  | mouseByte _ | deviceUnit _ _ _ | memoryByte _ _ | a20Gate _ | portClaim _ => rfl

theorem claimPort_of_owned {e : Env} {port : PortNo} (h : port ∈ e.granted ∨ port ∈ e.foreign) :
    claimPort port e = e := by
  obtain ⟨-, eq⟩ | ⟨hg, hf, -⟩ := claimPort_cases port e
  · exact eq
  · exact absurd h (not_or.mpr ⟨hg, hf⟩)

theorem claimPort_of_free {e : Env} {port : PortNo} (hg : port ∉ e.granted) (hf : port ∉ e.foreign) :
    claimPort port e = { e with foreign := port :: e.foreign } := by
  obtain ⟨h, -⟩ | ⟨-, -, eq⟩ := claimPort_cases port e
  · exact absurd h (not_or.mpr ⟨hg, hf⟩)
  · exact eq

/-! ## How an operation ends -/

/-- The operation completes and reports no failure (00_scope.md R11). -/
def Succeeds (r : Result) : Prop := ∃ t, r = .next t ∧ ∀ f, t.reply ≠ .raised f

theorem succeeds_answer {r : Reply} (h : ∀ f, r ≠ .raised f) (s : State) : Succeeds (answer r s) := ⟨_, rfl, h⟩

/-- An identity in the registry is answered with its number, any other with `IRQ_UNSUPPORTED` (40_pic.md R145). -/
theorem succeeds_execRequestIrqNumber (identity : Identity) (s : State) :
    Succeeds (execRequestIrqNumber identity s) := by
  unfold execRequestIrqNumber
  cases registeredIrq identity with
  | some n => exact succeeds_answer (by nofun) s
  | none => exact succeeds_answer (by nofun) _

/-- The reads of the seven write-only registers of a DMA controller (41_dma.md R221). -/
def writeOnlyReads (d : DmaId) : List Instr :=
  [Row.writeOnly9 d, Row.writeOnlyA d, Row.writeOnlyB d, Row.writeOnlyC d, Row.writeOnlyD d, Row.writeOnlyE d,
    Row.writeOnlyF d]

theorem writeOnlyReads_dma0 : writeOnlyReads .dma0 =
    [.dma0WriteOnlyR9, .dma0WriteOnlyRA, .dma0WriteOnlyRB, .dma0WriteOnlyRC, .dma0WriteOnlyRD, .dma0WriteOnlyRE,
      .dma0WriteOnlyRF] := rfl

theorem writeOnlyReads_dma1 : writeOnlyReads .dma1 =
    [.dma1WriteOnlyR9, .dma1WriteOnlyRA, .dma1WriteOnlyRB, .dma1WriteOnlyRC, .dma1WriteOnlyRD, .dma1WriteOnlyRE,
      .dma1WriteOnlyRF] := rfl

/-- Each of them does nothing but report the failure, with the port it was read at. -/
theorem exec_writeOnlyReads {d : DmaId} {i : Instr} (h : i ∈ writeOnlyReads d) (s : State) :
    exec i s = raise (.writeOnlyPortRead (encodeFields i).port) s := by
  simp only [writeOnlyReads, List.mem_cons, List.not_mem_nil, or_false] at h
  cases d <;> rcases h with rfl | rfl | rfl | rfl | rfl | rfl | rfl <;> rfl

/-- An argument that its command does not take is consumed and reported (42_kbc.md R288, R294). -/
theorem exec_kbcArgUnexpected (data : Byte) (s : State) :
    exec (.kbcArgUnexpected data) s = raise (.unknownPort 0x60) (argumentPrologue s) := rfl

/-- Every operation succeeds, but for the two kinds that report a failure (60_exceptions.md R380). -/
theorem exec_succeeds_or_fails (i : Instr) (s : State) :
    Succeeds (exec i s) ∨ (∃ d, i ∈ writeOnlyReads d) ∨ ∃ data, i = .kbcArgUnexpected data := by
  cases i with
  | dma0WriteOnlyR9 | dma0WriteOnlyRA | dma0WriteOnlyRB | dma0WriteOnlyRC | dma0WriteOnlyRD | dma0WriteOnlyRE
  | dma0WriteOnlyRF => exact .inr (.inl ⟨.dma0, by simp [writeOnlyReads_dma0]⟩)
  | dma1WriteOnlyR9 | dma1WriteOnlyRA | dma1WriteOnlyRB | dma1WriteOnlyRC | dma1WriteOnlyRD | dma1WriteOnlyRE
  | dma1WriteOnlyRF => exact .inr (.inl ⟨.dma1, by simp [writeOnlyReads_dma1]⟩)
  | kbcArgUnexpected data => exact .inr (.inr ⟨data, rfl⟩)
  | requestIrqNumber identity => exact .inl (succeeds_execRequestIrqNumber identity s)
  | _ => exact .inl (succeeds_answer (by nofun) _)

/-! ## The statements -/

/-- Settles O11: each operation succeeds or is one of the two kinds that fail, whose failure is known. -/
theorem everyOperationCompletesWithTwoFailures : Obligations.EveryOperationCompletesWithTwoFailures := by
  intro i s
  obtain ⟨t, ht, hs⟩ | ⟨d, hi⟩ | ⟨data, rfl⟩ := exec_succeeds_or_fails i s
  · exact ⟨t, ht, fun f hf => absurd hf (hs f)⟩
  · refine ⟨_, exec_writeOnlyReads hi s, fun f hf => .inl ⟨?_, d, hi⟩⟩
    exact (Reply.raised.inj hf).symm
  · refine ⟨_, exec_kbcArgUnexpected data s, fun f hf => .inr ⟨?_, data, rfl⟩⟩
    exact (Reply.raised.inj hf).symm

/-- Settles O5: a packet that decodes and is routed is what the fetch hands to `exec`. -/
theorem stepPerformsTheDecodedOperation : Obligations.StepPerformsTheDecodedOperation := by
  intro s p rest i hs hd hr
  exact step_of_fetch_ok hs (fetchOperation_of_routed hd hr)

/-- Settles O6: the empty inbox, the two refusals of the fetch, and the collaborators' moves. -/
theorem stepWithoutAnOperation : Obligations.StepWithoutAnOperation := by
  refine ⟨fun s => step_of_inbox_nil, ?undecodable, ?notRouted, ?move, ?moves⟩
  case undecodable =>
    intro s p rest e hs hd
    exact step_of_fetch_error hs (fetchOperation_of_undecodable hd)
  case notRouted =>
    intro s p rest i port hs hd hp hg
    exact step_of_fetch_error hs (fetchOperation_of_not_routed hd hp hg)
  case move =>
    intro s e rest hs he
    rw [step_of_inbox_cons hs, handleEvent_of_not_op he]
  case moves =>
    intro e port b d j v a on
    exact ⟨claimPort_of_owned, claimPort_of_free, rfl, rfl, rfl, rfl⟩

end Sys2Proof.Machine

/-! The invariant through every step (spec/10_state.md), the writers of memory and of the A20 gate, the transfer of a bus
grant, and the state right after reset. The invariant is cut into parts; most operations are quiet (they move no collaborator
and keep the invariant), and the others are taken one by one. -/

/-! ## A decoded operation's row is the one its context selects (30_encoding.md R112) -/

namespace Sys2Proof

/-- Every row of a PIC command port is selected in every context. -/
theorem selectedIn_picCommandWrites (c : DecodeCtx) (p : PicId) (data : Byte) (level : Input) :
    (∀ i ∈ [Row.icw1 p data, Row.ocw3 p data, Row.eoi p, Row.eoiRotate p, Row.seoi p level, Row.seoiRotate p level,
      Row.setPriority p level, Row.ocw2Nop p, Row.rotAeoiSet p, Row.rotAeoiClr p, Row.ocw2Reserved p data],
      selectedIn c i = true) := by
  simp only [List.forall_mem_cons]
  cases p <;> exact ⟨rfl, rfl, rfl, rfl, rfl, rfl, rfl, rfl, rfl, rfl, rfl, by nofun⟩

theorem selectedIn_decodePicCommand (c : DecodeCtx) (p : PicId) (data : Byte) :
    selectedIn c (decodePicCommand p data) = true := by
  have rows := selectedIn_picCommandWrites c p data (data.extractLsb' 0 3)
  simp only [List.forall_mem_cons] at rows
  unfold decodePicCommand decodeOcw2
  simp only [apply_ite (selectedIn c), rows, ite_self]

theorem selectedIn_picMaskWrites (c : DecodeCtx) (p : PicId) (data : Byte) :
    selectedIn c (Row.icw2 p data) = (c.icw p == some .icw2) ∧ selectedIn c (Row.icw3 p data) = (c.icw p == some .icw3) ∧
    selectedIn c (Row.icw4 p data) = (c.icw p == some .icw4) ∧ selectedIn c (Row.ocw1 p data) = (c.icw p == none) := by
  cases p <;> exact ⟨rfl, rfl, rfl, rfl⟩

theorem selectedIn_decodePicMask (c : DecodeCtx) (p : PicId) (data : Byte) :
    selectedIn c (decodePicMask c p data) = true := by
  unfold decodePicMask
  split <;> next h => simp [selectedIn_picMaskWrites, h]

theorem selectedIn_decodeDmaWrite (c : DecodeCtx) (d : DmaId) (r : DmaReg) (data : Byte) :
    selectedIn c (decodeDmaWrite d r data) = true := by
  cases r with
  | addr j | count j => cases d <;> cases j <;> rfl
  | _ => cases d <;> rfl

theorem selectedIn_decodeDmaRead (c : DecodeCtx) (d : DmaId) (r : DmaReg) :
    selectedIn c (decodeDmaRead d r) = true := by
  cases r with
  | addr j | count j => cases d <;> cases j <;> rfl
  | _ => cases d <;> rfl

theorem selectedIn_decodeKbcCommand (c : DecodeCtx) (data : Byte) : selectedIn c (decodeKbcCommand data) = true := by
  unfold decodeKbcCommand
  split
  case h_18 => split <;> rfl
  all_goals rfl

/-- An awaited argument goes to the command that awaits it. -/
theorem selectedIn_decodeKbcArgument (c : DecodeCtx) (he : c.expecting = true) (data : Byte) :
    selectedIn c (decodeKbcArgument c.lastComm data) = true := by
  unfold decodeKbcArgument
  split
  case h_6 h60 hD1 hD2 hD3 hD4 =>
    have hn : c.lastComm ∉ argumentCommands := by
      intro hm
      simp only [argumentCommands, List.mem_cons, List.not_mem_nil, or_false] at hm
      rcases hm with hm | hm | hm | hm | hm <;> simp_all
    exact Bool.and_eq_true_iff.mpr ⟨he, by simpa using hn⟩
  all_goals next h => exact Bool.and_eq_true_iff.mpr ⟨he, beq_iff_eq.mpr (BitVec.eq_of_toNat_eq h)⟩

theorem selectedIn_decodeKbdCommand (c : DecodeCtx) (hc : c.deviceCommand = true) (data : Byte) :
    selectedIn c (decodeKbdCommand data) = true := by
  unfold decodeKbdCommand
  split <;> exact hc

/-- The rows of port 0x60, for each order of the conditions of R112. -/
theorem selectedIn_subStateBytes (c : DecodeCtx) (data : Byte) :
    selectedIn c (.kbdArgTypematic data) = (!c.expecting && c.typematic) ∧
    selectedIn c (.kbdArgLed data) = (!c.expecting && !c.typematic && c.led) ∧
    selectedIn c (.kbdArgScancodeSet data) = (!c.expecting && !c.typematic && !c.led && c.scancodeSet) :=
  ⟨rfl, rfl, rfl⟩

theorem selectedIn_decodeKbcData (c : DecodeCtx) (data : Byte) : selectedIn c (decodeKbcData c data) = true := by
  unfold decodeKbcData
  split
  · next he => exact selectedIn_decodeKbcArgument c he data
  split
  · simp_all [selectedIn_subStateBytes]
  split
  · simp_all [selectedIn_subStateBytes]
  split
  · simp_all [selectedIn_subStateBytes]
  · exact selectedIn_decodeKbdCommand c (by simp_all [DecodeCtx.deviceCommand]) data

theorem selectedIn_decodeWrite (c : DecodeCtx) (r : PortReg) (data : Byte) :
    selectedIn c (decodeWrite c r data) = true := by
  cases r with
  | picCommand p => exact selectedIn_decodePicCommand c p data
  | picMask p => exact selectedIn_decodePicMask c p data
  | dma d r => exact selectedIn_decodeDmaWrite c d r data
  | page r =>
    cases r with
    | page d j => cases d <;> cases j <;> rfl
    | ext x => cases x <;> rfl
  | kbcData => exact selectedIn_decodeKbcData c data
  | kbcCommand => exact selectedIn_decodeKbcCommand c data

theorem selectedIn_picReads (c : DecodeCtx) (p : PicId) :
    selectedIn c (Row.pollCmd p) = c.polled p ∧ selectedIn c (Row.readCmd p) = !c.polled p ∧
    selectedIn c (Row.pollMask p) = c.polled p ∧ selectedIn c (Row.readMask p) = !c.polled p := by
  cases p <;> exact ⟨rfl, rfl, rfl, rfl⟩

theorem selectedIn_kbcReads (c : DecodeCtx) :
    selectedIn c .kbcDataRAux = c.auxb ∧ selectedIn c .kbcDataRKbd = (!c.auxb && c.outb) ∧
    selectedIn c .kbcDataREmpty = (!c.auxb && !c.outb) := ⟨rfl, rfl, rfl⟩

theorem selectedIn_decodeRead (c : DecodeCtx) (r : PortReg) : selectedIn c (decodeRead c r) = true := by
  cases r with
  | picCommand p | picMask p =>
    rw [decodeRead]
    split <;> next h => simp [selectedIn_picReads, h]
  | dma d r => exact selectedIn_decodeDmaRead c d r
  | page r =>
    cases r with
    | page d j => cases d <;> cases j <;> rfl
    | ext x => cases x <;> rfl
  | kbcData =>
    rw [decodeRead]
    split_ifs <;> simp_all [selectedIn_kbcReads]
  | kbcCommand => rfl

theorem selectedIn_of_decodeWide (c : DecodeCtx) {f : Fields} {i : Instr} (h : decodeWide f = .ok i) :
    selectedIn c i = true := by
  unfold decodeWide at h
  split_ifs at h <;> cases h <;> rfl

theorem selectedIn_of_decodeSignal (c : DecodeCtx) {f : Fields} {i : Instr} (h : decodeSignal f = .ok i) :
    selectedIn c i = true := by
  unfold decodeSignal at h
  split at h
  case h_11 => cases h
  all_goals split_ifs at h <;> cases h <;> rfl

/-- What a packet decodes to in a context is the row that the context selects. -/
theorem selectedIn_of_decode {c : DecodeCtx} {p : Packet} {i : Instr} (h : decode c p = .ok i) :
    selectedIn c i = true := by
  unfold decode decodeFields at h
  generalize unpack p = f at h
  split at h
  · cases h
  split at h
  · split at h
    · cases h
    · next r _ =>
      split at h
      · cases h
      · split at h <;> cases h
        · exact selectedIn_decodeWrite c r f.data
        · exact selectedIn_decodeRead c r
  split at h
  · exact selectedIn_of_decodeWide c h
  split at h
  · split at h
    · cases h
    · exact selectedIn_of_decodeSignal c h
  · cases h

end Sys2Proof

namespace Sys2Proof.Machine

/-! ## The parts of the invariant -/

/-- The part of the machine's invariant that is about the PIC pair. -/
structure State.PicRules (s : State) : Prop where
  offsets : ∀ c, (s.pic c).offset &&& 0x07 = 0
  interruptLine : s.intr = s.master.intRequestPin

/-- The part of the machine's invariant that is about the collaborators. -/
structure Env.Rules (e : Env) : Prop where
  portOwners : e.OneOwner
  memory : e.mem.wf = true

/-- All the parts: what holds inside a bus grant too, where the TC output may be high. -/
structure State.Rules (s : State) : Prop where
  pic : s.PicRules
  dma : s.DmaRules
  kbd : s.KbdRules
  env : s.env.Rules

theorem State.Inv.rules {s : State} (h : s.Inv) : s.Rules where
  pic := ⟨h.offsets, h.interruptLine⟩
  dma := ⟨fun d => ⟨h.disabledFlag d, h.requestHeld d, h.oneAcknowledge d⟩, h.cascadeReserved⟩
  kbd := ⟨⟨h.auxPending, h.scancodeSet, h.argumentAwaited⟩, ⟨h.deviceBuffer, h.oneSubState⟩⟩
  env := ⟨h.portOwners, h.memory⟩

/-- The invariant is its parts and the low TC output. -/
theorem State.Rules.inv {s : State} (h : s.Rules) (tc : s.tc = false) : s.Inv where
  offsets := h.pic.offsets
  interruptLine := h.pic.interruptLine
  disabledFlag d := (h.dma.rules d).disabledFlag
  requestHeld d := (h.dma.rules d).requestHeld
  cascadeReserved := h.dma.cascadeReserved
  oneAcknowledge d := (h.dma.rules d).oneDack
  terminalCountLow := tc
  auxPending := h.kbd.1.auxPending
  scancodeSet := h.kbd.1.scancodeSet
  argumentAwaited := h.kbd.1.argumentAwaited
  deviceBuffer := h.kbd.2.deviceBuffer
  oneSubState := h.kbd.2.oneSubState
  portOwners := h.env.portOwners
  memory := h.env.memory

/-- What the model records of its answers and calls, and the events to come, are no part of the invariant. -/
theorem State.Inv.withRecord {s : State} (h : s.Inv) (r : Reply) (o : List Output) (l : List LogKind)
    (e : List Event) : State.Inv { s with reply := r, outputs := o, log := l, inbox := e } := { h with }

theorem State.Inv.withPic {s : State} (h : s.Inv) (m v : Pic) (i : Bool)
    (hp : State.PicRules { s with master := m, slave := v, intr := i }) :
    State.Inv { s with master := m, slave := v, intr := i } :=
  { h with offsets := hp.offsets, interruptLine := hp.interruptLine }

theorem State.Inv.withKbd {s : State} (h : s.Inv) (k : Kbc) (l : Kbd) (hk : k.Rules) (hl : l.Rules) :
    State.Inv { s with kbc := k, kbd := l } :=
  { h with
    auxPending := hk.auxPending, scancodeSet := hk.scancodeSet, argumentAwaited := hk.argumentAwaited
    deviceBuffer := hl.deviceBuffer, oneSubState := hl.oneSubState }

theorem State.Inv.withEnv {s : State} (h : s.Inv) (e : Env) (he : e.Rules) : State.Inv { s with env := e } :=
  { h with portOwners := he.portOwners, memory := he.memory }

/-! ## Quiet operations -/

/-- Between these two states no collaborator moved, and the invariant was kept. -/
structure Quiet (s t : State) : Prop where
  env : t.env = s.env
  inv : s.Inv → t.Inv

theorem Quiet.refl (s : State) : Quiet s s := ⟨rfl, id⟩

theorem Quiet.trans {s t u : State} (h : Quiet s t) (h' : Quiet t u) : Quiet s u :=
  ⟨h'.env.trans h.env, h'.inv ∘ h.inv⟩

/-- A routine of the PIC pair. -/
theorem PicOnly.quiet {s t : State} (h : PicOnly s t) : Quiet s t := by
  obtain ⟨e, hm, hv, hi⟩ := h
  refine ⟨by rw [e], fun hs => ?_⟩
  have hp : t.PicRules := by
    refine ⟨fun c => ?_, hi hs.interruptLine⟩
    cases c
    · exact (congrArg (· &&& 0x07) hm).trans (hs.offsets .master)
    · exact (congrArg (· &&& 0x07) hv).trans (hs.offsets .slave)
  obtain ⟨m, v, i, rfl⟩ : ∃ m v i, t = { s with master := m, slave := v, intr := i } := ⟨_, _, _, e⟩
  exact hs.withPic m v i hp

/-- A routine of the DMA pair that keeps the pair's rules. -/
theorem DmaOnly.quiet {s t : State} (h : DmaOnly s t) (hr : s.DmaRules → t.DmaRules) : Quiet s t := by
  obtain ⟨x, y, q, l, rfl⟩ : ∃ x y q l, t = { s with dma0 := x, dma1 := y, hrq := q, log := l } := ⟨_, _, _, _, h⟩
  refine ⟨rfl, fun hs => ?_⟩
  obtain ⟨hd, hc⟩ := hr hs.rules.dma
  exact { hs with
    disabledFlag := fun d => (hd d).disabledFlag, requestHeld := fun d => (hd d).requestHeld
    oneAcknowledge := fun d => (hd d).oneDack, cascadeReserved := hc }

/-- A routine of the keyboard side that keeps its rules. -/
theorem KbdOnly.quiet {s t : State} (h : KbdOnly s t) (hr : s.KbdRules → t.KbdRules) : Quiet s t := by
  obtain ⟨k, l, o, g, rfl⟩ : ∃ k l o g, t = { s with kbc := k, kbd := l, outputs := o, log := g } :=
    ⟨_, _, _, _, h⟩
  refine ⟨rfl, fun hs => ?_⟩
  obtain ⟨hk, hl⟩ := hr hs.rules.kbd
  exact (hs.withKbd k l hk hl).withRecord s.reply o g s.inbox

theorem State.note_quiet (s : State) (k : LogKind) : Quiet s (s.note k) :=
  ⟨rfl, fun h => h.withRecord s.reply s.outputs (s.log ++ [k]) s.inbox⟩

theorem State.noteIf_quiet (s : State) (b : Bool) (k : LogKind) : Quiet s (s.noteIf b k) := by
  cases b
  · exact .refl s
  · exact s.note_quiet k

theorem State.emit_quiet (s : State) (o : Output) : Quiet s (s.emit o) :=
  ⟨rfl, fun h => h.withRecord s.reply (s.outputs ++ [o]) s.log s.inbox⟩

/-! ### The PIC pair (40_pic.md sections 3 to 6) -/

/-- A controller written, its vector base and latched request standing. -/
theorem setPic_quiet (s : State) (c : PicId) (p : Pic) (ho : p.offset = (s.pic c).offset)
    (hr : p.intRequestPin = (s.pic c).intRequestPin) : Quiet s (s.setPic c p) :=
  (PicOnly.setPic s c p ho hr).quiet

/-- The same, and then served. -/
theorem service_setPic_quiet (s : State) (c : PicId) (p : Pic) (ho : p.offset = (s.pic c).offset)
    (hr : p.intRequestPin = (s.pic c).intRequestPin) : Quiet s (service c (s.setPic c p)) :=
  ((PicOnly.setPic s c p ho hr).trans (service_only c _)).quiet

theorem icw1_quiet (c : PicId) (data : Byte) (s : State) : Quiet s (icw1 c data s) := by
  refine PicOnly.quiet ?_
  cases c
  · exact ⟨rfl, rfl, rfl, fun _ => rfl⟩
  · exact ⟨rfl, rfl, rfl, id⟩

theorem icw2Offset_aligned (data : Byte) : icw2Offset data &&& 0x07 = 0 := by
  rw [icw2Offset, BitVec.and_assoc]
  exact BitVec.and_zero

/-- ICW2 is the one word that moves a vector base, and it clears bits 2:0 (R23, R147). -/
theorem icw2_quiet (c : PicId) (data : Byte) (s : State) : Quiet s (icw2 c data s) := by
  refine ⟨State.setPic_env _ _ _, fun h => ?_⟩
  cases c
  · refine h.withPic _ s.slave s.intr ⟨fun e => ?_, h.interruptLine⟩
    cases e
    · exact icw2Offset_aligned data
    · exact h.offsets .slave
  · refine h.withPic s.master _ s.intr ⟨fun e => ?_, h.interruptLine⟩
    cases e
    · exact h.offsets .master
    · exact icw2Offset_aligned data

theorem icw3_quiet (c : PicId) (s : State) : Quiet s (icw3 c s) := by
  refine setPic_quiet s c _ ?_ ?_
  · split <;> rfl
  · split <;> rfl

theorem icw4_quiet (c : PicId) (data : Byte) (s : State) : Quiet s (icw4 c data s) :=
  .trans (setPic_quiet s c { s.pic c with autoEoi := icw4Aeoi data, inInit := false } rfl rfl) (State.noteIf_quiet _ _ _)

theorem ocw1_quiet (c : PicId) (data : Byte) (s : State) : Quiet s (ocw1 c data s) :=
  service_setPic_quiet s c _ rfl rfl

theorem Pic.clearHighest_offset (p : Pic) : p.clearHighest.offset = p.offset := by rw [p.clearHighest_frame]

theorem Pic.clearHighest_intRequestPin (p : Pic) : p.clearHighest.intRequestPin = p.intRequestPin := by
  rw [p.clearHighest_frame]

theorem eoi_quiet (c : PicId) (s : State) : Quiet s (eoi c s) :=
  service_setPic_quiet s c _ (Pic.clearHighest_offset _) (Pic.clearHighest_intRequestPin _)

theorem eoiRotate_quiet (c : PicId) (s : State) : Quiet s (eoiRotate c s) :=
  service_setPic_quiet s c _ (Pic.clearHighest_offset (s.pic c)) (Pic.clearHighest_intRequestPin (s.pic c))

theorem specificEoi_quiet (c : PicId) (level : Input) (s : State) : Quiet s (specificEoi c level s) :=
  service_setPic_quiet s c _ rfl rfl

theorem specificEoiRotate_quiet (c : PicId) (level : Input) (s : State) : Quiet s (specificEoiRotate c level s) :=
  service_setPic_quiet s c _ rfl rfl

theorem setPriority_quiet (c : PicId) (level : Input) (s : State) : Quiet s (setPriority c level s) :=
  setPic_quiet s c _ rfl rfl

theorem setRotateOnAutoEoi_quiet (c : PicId) (b : Bool) (s : State) : Quiet s (setRotateOnAutoEoi c b s) :=
  setPic_quiet s c _ rfl rfl

theorem ocw3_quiet (c : PicId) (data : Byte) (s : State) : Quiet s (ocw3 c data s) := by
  unfold ocw3
  dsimp only
  split
  · exact setPic_quiet s c _ rfl rfl
  · split
    · exact service_setPic_quiet s c _ rfl rfl
    · exact setPic_quiet s c _ rfl rfl

theorem poll_quiet (c : PicId) (s : State) : Quiet s (poll c s) :=
  service_setPic_quiet s c _ (Pic.clearHighest_offset (s.pic c)) (Pic.clearHighest_intRequestPin (s.pic c))

/-! ### The DMA pair (41_dma.md sections 1 to 3) -/

/-- A controller replaced by one that keeps the rules and the cascade reservation. -/
theorem setDma_quiet (s : State) (d : DmaId) (x : Dma) (hx : (s.dma d).Rules → x.Rules)
    (hc : d = .dma1 → (x.chan.get .c0).inUse = (s.dma1.chan.get .c0).inUse ∧
      x.handler.get .c0 = s.dma1.handler.get .c0) : Quiet s (s.setDma d x) :=
  (setDma_only s d x).quiet fun h => h.setDma d x (hx (h.rules d)) hc

theorem holdEval_quiet (d : DmaId) (s : State) : Quiet s (holdEval d s) :=
  (holdEval_only d s).quiet fun h => h.holdEval d

theorem setRequest_quiet (d : DmaId) (j : Chan) (b : Bool) (s : State) : Quiet s (setRequest d j b s) :=
  (setRequest_only d j b s).quiet fun h => h.setRequest d j b

/-- A channel's registers written; whether it is in use stands. -/
theorem setChan_quiet (s : State) (d : DmaId) (j : Chan) (ch : Channel) (hu : ch.inUse = (s.chan d j).inUse) :
    Quiet s (s.setChan d j ch) := by
  refine setDma_quiet s d _ (fun h => h.of_eq rfl rfl (fun _ => id) rfl rfl) ?_
  rintro rfl
  refine ⟨?_, rfl⟩
  rw [Quad.get_set]
  split
  · next hj => rw [hu, hj]; rfl
  · rfl

theorem setFlipflop_quiet (s : State) (d : DmaId) (b : Bool) : Quiet s (s.setDma d { s.dma d with flipflop := b }) :=
  setDma_quiet s d _ (fun h => h.of_eq rfl rfl (fun _ => id) rfl rfl) (by rintro rfl; exact ⟨rfl, rfl⟩)

theorem addressWrite_quiet (d : DmaId) (j : Chan) (data : Byte) (s : State) : Quiet s (addressWrite d j data s) := by
  refine .trans ?_ (setFlipflop_quiet _ d _)
  exact setChan_quiet s d j _ rfl

theorem countWrite_quiet (d : DmaId) (j : Chan) (data : Byte) (s : State) : Quiet s (countWrite d j data s) := by
  refine .trans ?_ (setFlipflop_quiet _ d _)
  exact setChan_quiet s d j _ rfl

theorem modeWrite_quiet (d : DmaId) (data : Byte) (s : State) : Quiet s (modeWrite d data s) :=
  setChan_quiet s d _ _ rfl

theorem pageWrite_quiet (d : DmaId) (j : Chan) (data : Byte) (s : State) : Quiet s (pageWrite d j data s) :=
  setChan_quiet s d j _ rfl

theorem commandWrite_quiet (d : DmaId) (data : Byte) (s : State) : Quiet s (commandWrite d data s) := by
  refine .trans (s.noteIf_quiet (commandUnsupported data) (.dmaCommandBits d data)) (.trans ?_ (holdEval_quiet d _))
  exact setDma_quiet _ d _ (fun h => ⟨rfl, h.requestHeld, h.oneDack⟩) (by rintro rfl; exact ⟨rfl, rfl⟩)

/-- A controller's mask written, and arbitration. -/
theorem holdEval_setMask_quiet (s : State) (d : DmaId) (m : Quad Bool) :
    Quiet s (holdEval d (s.setDma d { s.dma d with mask := m })) := by
  refine .trans ?_ (holdEval_quiet d _)
  exact setDma_quiet s d _ (fun h => h.of_eq rfl rfl (fun _ => id) rfl rfl) (by rintro rfl; exact ⟨rfl, rfl⟩)

/-- A status read clears bits 3:0 and no request bit (R210). -/
theorem requested_of_statusRead {x : Dma} {j : Chan}
    (h : Dma.requested { x with status := x.status &&& 0xF0 } j = true) : x.requested j = true := by
  rw [Dma.requested, BitVec.getLsbD_and, Bool.and_eq_true] at h
  exact h.1

theorem statusRead_quiet (d : DmaId) (s : State) :
    Quiet s (s.setDma d { s.dma d with status := (s.dma d).status &&& 0xF0 }) :=
  setDma_quiet s d _ (fun h => h.of_eq rfl rfl (fun _ => requested_of_statusRead) rfl rfl)
    (by rintro rfl; exact ⟨rfl, rfl⟩)

theorem masterClear_quiet (d : DmaId) (s : State) : Quiet s (masterClear d s) := by
  refine .trans ?_ (holdEval_quiet d _)
  refine setDma_quiet s d _ (fun h => ⟨by simp, fun j hj => ?_, h.oneDack⟩) (by rintro rfl; exact ⟨rfl, rfl⟩)
  simp [Dma.requested] at hj

theorem extWrite_quiet (x : ExtSlot) (data : Byte) (s : State) : Quiet s (extWrite x data s) :=
  ⟨rfl, fun h => { h with }⟩

/-- A registration touches a free channel only, so not the cascade channel (R200). -/
theorem registerHandler_quiet (g : BitVec 32) (a : Handler) (s : State) : Quiet s (registerHandler g a s).2 := by
  unfold registerHandler
  dsimp only
  split
  · exact .refl s
  split
  · exact .refl s
  next hfree =>
  refine (setDma_only s _ _).quiet fun h =>
    h.setDma _ _ ((h.rules _).of_eq rfl rfl (fun _ => id) rfl rfl) fun hd => ?_
  have hj : globalChan (g.setWidth 3) ≠ .c0 := by
    intro hj
    rw [hd, hj] at hfree
    exact hfree h.cascadeReserved.1
  rw [hd, Quad.get_set_of_ne _ _ hj.symm, Quad.get_set_of_ne _ _ hj.symm]
  exact ⟨rfl, rfl⟩

/-! ### The keyboard controller and the keyboard device (42_kbc.md, 43_kbd_device.md) -/

/-- New contents of the two that follow their rules. -/
theorem setKeyboard_quiet (s : State) (k : Kbc) (l : Kbd) (hk : s.kbc.Rules → k.Rules) (hl : s.kbd.Rules → l.Rules) :
    Quiet s { s with kbc := k, kbd := l } :=
  ⟨rfl, fun h => h.withKbd k l (hk h.rules.kbd.1) (hl h.rules.kbd.2)⟩

theorem activateTimer_quiet (s : State) : Quiet s (activateTimer s) :=
  setKeyboard_quiet s _ _ (fun h => h.timer true) id

theorem setKbdClock_quiet (v : Bool) (s : State) : Quiet s (setKbdClock v s) :=
  (setKbdClock_only v s).quiet fun h => h.setKbdClock v

theorem setAuxClock_quiet (v : Bool) (s : State) : Quiet s (setAuxClock v s) :=
  (setAuxClock_only v s).quiet fun h => h.setAuxClock v

theorem kbcEnqueue_quiet (b : Byte) (aux : Bool) (s : State) : Quiet s (kbcEnqueue b aux s) :=
  (kbcEnqueue_only b aux s).quiet fun h => h.kbcEnqueue b aux

theorem kbdEnqueue_quiet (b : Byte) (s : State) : Quiet s (kbdEnqueue b s) :=
  (kbdEnqueue_only b s).quiet fun h => h.kbdEnqueue b

theorem Quiet.kbdEnqueue {s t : State} (h : Quiet s t) (b : Byte) : Quiet s (kbdEnqueue b t) :=
  h.trans (kbdEnqueue_quiet b t)

theorem hostKey_quiet (key : BitVec 32) (type : KeyType) (side : KeySide) (s : State) :
    Quiet s (hostKey key type side s) :=
  (hostKey_only key type side s).quiet fun h => h.hostKey key type side

/-- The prologue of a command awaits no argument. -/
theorem commandPrologue_quiet (data : Byte) (s : State) : Quiet s (commandPrologue data s) :=
  setKeyboard_quiet s _ _ (fun h => ⟨h.auxPending, h.scancodeSet, by nofun⟩) id

/-- A command that awaits an argument is one of the five that take one (R294). -/
theorem expectArgument_quiet (data : Byte) (hd : data ∈ argumentCommands) (s : State) :
    Quiet s (expectArgument (commandPrologue data s)) :=
  setKeyboard_quiet s _ _ (fun h => ⟨h.auxPending, h.scancodeSet, fun _ => hd⟩) id

theorem argumentPrologue_quiet (s : State) : Quiet s (argumentPrologue s) :=
  setKeyboard_quiet s _ _ (fun h => ⟨h.auxPending, h.scancodeSet, by nofun⟩) id

theorem readConfig_quiet (s : State) : Quiet s (readConfig s) := by
  unfold readConfig
  split
  · exact s.note_quiet _
  · exact kbcEnqueue_quiet _ _ s

theorem selfTest_quiet (s : State) : Quiet s (selfTest s) := by
  refine .trans (setKeyboard_quiet s _ _ (fun h => ?_) id) (kbcEnqueue_quiet _ _ _)
  split
  · exact ⟨h.auxPending, h.scancodeSet, h.argumentAwaited⟩
  · exact ⟨by nofun, h.scancodeSet, h.argumentAwaited⟩

/-- The requests of a config byte touch no bit of the rules (R289). -/
theorem writeConfig_quiet (data : Byte) (s : State) : Quiet s (writeConfig data s) := by
  unfold writeConfig
  dsimp only
  generalize hk : { s.kbc with
    scancodesTranslate := configTranslate data, sysf := configSysf data
    allowIrq1 := configAllowIrq1 data, allowIrq12 := configAllowIrq12 data } = k
  have clocks : Quiet s (setAuxClock (!configAuxClockOff data) (setKbdClock (!configKbdClockOff data)
      { s with kbc := k })) := by
    refine .trans (setKeyboard_quiet s _ _ (fun h => ?_) id) (.trans (setKbdClock_quiet _ _) (setAuxClock_quiet _ _))
    subst hk
    exact h.of_eq rfl rfl rfl rfl rfl
  refine clocks.trans ?_
  split
  · exact setKeyboard_quiet _ _ _ (fun h => h.of_eq rfl rfl rfl rfl rfl) id
  · split
    · exact setKeyboard_quiet _ _ _ (fun h => h.of_eq rfl rfl rfl rfl rfl) id
    · exact .refl _

/-- Reading the status byte clears `tim` alone (R267). -/
theorem statusByteRead_quiet (s : State) : Quiet s { s with kbc := { s.kbc with tim := false } } :=
  setKeyboard_quiet s _ _ (fun h => h.of_eq rfl rfl rfl rfl rfl) id

/-- The end of a read of port 0x60: the IRQ line falls and a re-poll is due (R264, R265). -/
theorem dataRead_quiet (s : State) (n : BitVec 4) (k : Kbc) (hk : s.kbc.Rules → k.Rules) :
    Quiet s (activateTimer (clearIrq n { s with kbc := k })) :=
  .trans (setKeyboard_quiet s k s.kbd hk id) (.trans (clearIrq_only n _).quiet (activateTimer_quiet _))

/-- The arrival of a byte for the device. -/
theorem devicePrologue_quiet (s : State) : Quiet s (devicePrologue s) := by
  rw [devicePrologue_eq]
  exact setKeyboard_quiet s _ _ (fun h => h.of_eq rfl rfl rfl rfl rfl) id

theorem devicePrologue_kbd (s : State) : (devicePrologue s).kbd = s.kbd := by rw [devicePrologue_eq]; rfl

/-- A sub-state is left by its argument, never entered. -/
theorem typematicByte_quiet (data : Byte) (s : State) : Quiet s (typematicByte data s) := by
  refine Quiet.kbdEnqueue ?_ 0xFA
  exact setKeyboard_quiet s _ _ id fun ⟨hb, _, _, hls⟩ => ⟨hb, by nofun, by nofun, hls⟩

theorem ledByte_quiet (data : Byte) (s : State) : Quiet s (ledByte data s) := by
  refine Quiet.kbdEnqueue (.trans ?_ (.trans (State.emit_quiet _ _) (.trans (State.emit_quiet _ _)
    (State.emit_quiet _ _)))) 0xFA
  exact setKeyboard_quiet s _ _ id fun ⟨hb, _, hts, _⟩ => ⟨hb, by nofun, hts, by nofun⟩

theorem selectedSet_ne_zero {data : Byte} (h0 : data ≠ 0) (h3 : data ≤ 3) : data.extractLsb' 0 2 ≠ 0 := by
  revert data
  decide

/-- The selector sets the scancode set to 1, 2 or 3 or leaves it (R335). -/
theorem scancodeSetByte_quiet (data : Byte) (s : State) : Quiet s (scancodeSetByte data s) := by
  have leave : Quiet s { s with kbd := { s.kbd with expectingScancodeSet := false } } :=
    setKeyboard_quiet s _ _ id fun ⟨hb, htl, _, _⟩ => ⟨hb, htl, by nofun, by nofun⟩
  refine leave.trans ?_
  unfold scancodeSetByte
  dsimp only
  split
  · exact ((Quiet.refl _).kbdEnqueue _).kbdEnqueue _
  next h0 =>
  split
  · next h3 =>
    refine Quiet.kbdEnqueue (setKeyboard_quiet _ _ _ (fun h => ?_) id) 0xFA
    exact ⟨h.auxPending, selectedSet_ne_zero h0 h3, h.argumentAwaited⟩
  · exact (State.note_quiet _ _).kbdEnqueue _

theorem identify_quiet (s : State) : Quiet s (identify s) :=
  (((Quiet.refl s).kbdEnqueue _).kbdEnqueue _).kbdEnqueue _

theorem setScanning_quiet (s : State) (on : Bool) : Quiet s { s with kbd := { s.kbd with scanningEnabled := on } } :=
  setKeyboard_quiet s _ _ id fun h => ⟨h.deviceBuffer, h.oneSubState⟩

theorem resetInternals_quiet (s : State) : Quiet s (resetInternals s) :=
  setKeyboard_quiet s _ _ (fun h => ⟨h.auxPending, (by decide : (2 : BitVec 2) ≠ 0), h.argumentAwaited⟩) fun _ =>
    ⟨Nat.zero_le _, by nofun, by nofun, by nofun⟩

theorem resetScanning_quiet (on : Bool) (s : State) : Quiet s (resetScanning on s) :=
  ((resetInternals_quiet s).kbdEnqueue 0xFA).trans (setScanning_quiet _ on)

theorem resetBat_quiet (s : State) : Quiet s (resetBat s) := by
  refine Quiet.kbdEnqueue (((resetInternals_quiet s).kbdEnqueue 0xFA).trans ?_) 0xAA
  exact setKeyboard_quiet _ _ _ (fun h => h.of_eq rfl rfl rfl rfl rfl) id

/-! ## The operations that move a collaborator or open a sub-state of the device -/

/-- The gate moves; the block stands (00_scope.md R10). -/
theorem setA20_inv {s : State} (h : s.Inv) (b : Bool) : (setA20 b s).Inv :=
  h.withEnv _ ⟨h.portOwners, h.memory⟩

/-- The output-port byte moves the gate and may ask for a CPU reset (R290); memory stands. -/
theorem writeOutport_mem (data : Byte) (s : State) : (writeOutport data s).env.mem = s.env.mem := by
  unfold writeOutport
  dsimp only
  split <;> rfl

theorem writeOutport_inv {s : State} (h : s.Inv) (data : Byte) : (writeOutport data s).Inv := by
  unfold writeOutport
  dsimp only
  split
  · exact setA20_inv h _
  · exact (State.emit_quiet _ _).inv (setA20_inv h _)

/-- A poll changes the two keyboard parts and the mouse's buffer (R296). -/
theorem pollFetch_frame (s : State) :
    pollFetch s = { s with
      kbc := (pollFetch s).kbc, kbd := (pollFetch s).kbd, env := { s.env with mouse := (pollFetch s).env.mouse } } := by
  obtain e | e | ⟨b, rest, -, -, e⟩ | ⟨b, rest, -, -, e⟩ := pollFetch_cases s <;> rw [e]

theorem pollFetch_inv {s : State} (h : s.Inv) : (pollFetch s).Inv := by
  obtain ⟨hk, hl⟩ := h.rules.kbd.pollFetch
  rw [pollFetch_frame]
  exact (h.withEnv { s.env with mouse := (pollFetch s).env.mouse } ⟨h.portOwners, h.memory⟩).withKbd _ _ hk hl

/-- A poll's two cleared requests (R296). -/
theorem pollCycle_inv {s : State} (h : s.Inv) : (pollCycle s).Inv :=
  pollFetch_inv (h.withKbd _ s.kbd (h.rules.kbd.1.of_eq rfl rfl rfl rfl rfl) h.rules.kbd.2)

theorem pollCycle_env (s : State) :
    (pollCycle s).env = { s.env with mouse := (pollCycle s).env.mouse } := by
  unfold pollCycle
  rw [pollFetch_frame]

/-- An IRQ line raised under a condition. -/
theorem setIrq_if_quiet (b : Bool) (n : BitVec 4) (s : State) : Quiet s (if b then setIrq n s else s) := by
  split
  · exact (setIrq_only n s).quiet
  · exact .refl s

theorem updateCycle_quiet (s : State) : Quiet (pollCycle s) (updateCycle s) :=
  .trans (setIrq_if_quiet _ 1 (pollCycle s)) (setIrq_if_quiet _ 12 _)

/-- An update moves the mouse's buffer alone of the collaborators (R297). -/
theorem updateCycle_mem_a20 (s : State) :
    (updateCycle s).env.mem = s.env.mem ∧ (updateCycle s).env.a20 = s.env.a20 := by
  rw [(updateCycle_quiet s).env, pollCycle_env]
  exact ⟨rfl, rfl⟩

theorem resetBlock_inv {s : State} (h : s.Inv) : (resetBlock s).Inv :=
  State.Inv.withRecord (Tests.reset_inv.withEnv _ ⟨Env.OneOwner.resetBlock s, h.memory⟩) s.reply s.outputs s.log s.inbox

/-- A device command opens a sub-state, after the prologue and before the acknowledgement (R336, R338, R340). -/
def openSubState (k : Kbd) (s : State) : State := kbdEnqueue 0xFA { devicePrologue s with kbd := k }

theorem openSubState_env (k : Kbd) (s : State) : (openSubState k s).env = s.env :=
  (kbdEnqueue_quiet _ _).env.trans (devicePrologue_quiet s).env

theorem openSubState_inv {s : State} (h : s.Inv) {k : Kbd} (hk : k.Rules) : (openSubState k s).Inv := by
  have hp := (devicePrologue_quiet s).inv h
  exact (kbdEnqueue_quiet _ _).inv (hp.withKbd (devicePrologue s).kbc k hp.rules.kbd.1 hk)

/-- A fetched operation is one that the state selects. -/
theorem selectedIn_of_fetch {s : State} {p : Packet} {i : Instr} (h : fetchOperation s p = .ok i) :
    selectedIn s.decodeCtx i = true := by
  unfold fetchOperation at h
  split at h
  · cases h
  · next k hd =>
    split at h <;> cases h
    exact selectedIn_of_decode hd

/-- A byte is a device command only where no sub-state is open (30_encoding.md R111, R112). -/
theorem subStates_closed {s : State} (h : s.decodeCtx.deviceCommand = true) :
    s.kbd.expectingTypematic = false ∧ s.kbd.expectingLedWrite = false ∧ s.kbd.expectingScancodeSet = false := by
  simp only [DecodeCtx.deviceCommand, State.decodeCtx, Bool.and_eq_true, Bool.not_eq_true'] at h
  obtain ⟨⟨⟨-, ht⟩, hl⟩, hc⟩ := h
  exact ⟨ht, hl, hc⟩

/-! ## A bus grant (41_dma.md R222 to R226) -/

/-- A controller after the register part of a transfer (R223). -/
def Dma.served (x : Dma) (j : Chan) : Dma :=
  { x.acknowledge j with
    chan := x.chan.set j (x.chan.get j).stepped
    status := if (x.chan.get j).curCount == 0 then setBit x.status (chanIndex j) true else x.status
    mask := if (x.chan.get j).curCount == 0 && !(x.chan.get j).mode.autoinit then x.mask.set j true else x.mask }

/-- The TC output raised under a condition. -/
theorem State.raiseTc_if (s : State) (b : Bool) :
    (if b then { s with tc := true } else s) = { s with tc := s.tc || b } := by
  cases b
  · rw [if_neg Bool.false_ne_true, Bool.or_false]
  · rw [if_pos rfl, Bool.or_true]

theorem transferRegisters_eq (d : DmaId) (j : Chan) (s : State) :
    transferRegisters d j s =
      { s.setDma d ((s.dma d).served j) with tc := s.tc || (s.chan d j).curCount == 0 } := by
  refine (State.raiseTc_if (s.setDma d ((s.dma d).served j)) ((s.chan d j).curCount == 0)).trans ?_
  rw [State.setDma_tc]

@[simp] theorem Dma.requested_served (x : Dma) (j k : Chan) : (x.served j).requested k = x.requested k := by
  unfold Dma.requested Dma.served
  dsimp only
  split
  · exact getLsbD_setBit_count x.status j k true
  · rfl

theorem Dma.Rules.served {x : Dma} (h : x.Rules) (j : Chan) : (x.served j).Rules :=
  ⟨h.disabledFlag, fun k hk => h.requestHeld k (x.requested_served j k ▸ hk), x.acknowledge_oneDack j⟩

/-- Whether a channel is in use is no register of a transfer. -/
theorem Dma.served_inUse (x : Dma) (j k : Chan) : ((x.served j).chan.get k).inUse = (x.chan.get k).inUse := by
  rw [Dma.served, Quad.get_set]
  split
  · next h => rw [Channel.stepped_inUse, h]
  · rfl

/-- The two flags, HRQ and the record are no part of the rules. -/
theorem State.Rules.withFlags {s : State} (h : s.Rules) (a b c : Bool) (o : List Output) (l : List LogKind) :
    State.Rules { s with hlda := a, tc := b, hrq := c, outputs := o, log := l } where
  pic := ⟨h.pic.offsets, h.pic.interruptLine⟩
  dma := ⟨h.dma.rules, h.dma.cascadeReserved⟩
  kbd := h.kbd
  env := h.env

theorem State.Rules.withEnv {s : State} (h : s.Rules) {e : Env} (he : e.Rules) : State.Rules { s with env := e } where
  pic := ⟨h.pic.offsets, h.pic.interruptLine⟩
  dma := ⟨h.dma.rules, h.dma.cascadeReserved⟩
  kbd := h.kbd
  env := he

theorem State.Rules.withDma {s t : State} (h : s.Rules) (ht : DmaOnly s t) (hr : t.DmaRules) : t.Rules := by
  obtain ⟨x, y, q, l, rfl⟩ : ∃ x y q l, t = { s with dma0 := x, dma1 := y, hrq := q, log := l } := ⟨_, _, _, _, ht⟩
  exact ⟨⟨h.pic.offsets, h.pic.interruptLine⟩, hr, h.kbd, h.env⟩

theorem State.Rules.setDma {s : State} (h : s.Rules) (d : DmaId) (x : Dma) (hx : x.Rules)
    (hc : d = .dma1 → (x.chan.get .c0).inUse = (s.dma1.chan.get .c0).inUse ∧
      x.handler.get .c0 = s.dma1.handler.get .c0) : (s.setDma d x).Rules :=
  h.withDma (setDma_only s d x) (h.dma.setDma d x hx hc)

theorem State.Rules.transferRegisters {s : State} (h : s.Rules) (d : DmaId) (j : Chan) :
    (transferRegisters d j s).Rules := by
  rw [transferRegisters_eq]
  refine (h.setDma d _ ((h.dma.rules d).served j) ?_).withFlags _ _ _ _ _
  rintro rfl
  exact ⟨Dma.served_inUse _ j .c0, rfl⟩

theorem State.Rules.transferData {s : State} (h : s.Rules) (d : DmaId) (j : Chan) (t : TransferType) (a : PhysAddr) :
    (transferData d j t a s).Rules := by
  obtain ⟨-, -, hg, hf⟩ := transferData_env d j t a s
  have he : (Machine.transferData d j t a s).env.Rules := by
    refine ⟨?_, transferData_wf d j t a s h.env.memory⟩
    intro p
    rw [hg, hf]
    exact h.env.portOwners p
  rw [transferData_only]
  exact (h.withEnv he).withFlags _ _ _ _ _

theorem State.Rules.withdraw {s : State} (h : s.Rules) (d : DmaId) (j : Chan) :
    (s.setDma d { s.dma d with dack := (s.dma d).dack.set j false }).Rules :=
  h.setDma d _ ((h.dma.rules d).withdraw j) (by rintro rfl; exact ⟨rfl, rfl⟩)

theorem State.Rules.transferRelease {s : State} (h : s.Rules) (d : DmaId) (j : Chan) :
    (transferRelease d j s).Rules := by
  have released := (h.withFlags false false false s.outputs s.log).withdraw d j
  cases d
  · have lowered := released.withDma (setRequest_only .dma1 .c0 false _) (released.dma.setRequest .dma1 .c0 false)
    exact lowered.withdraw .dma1 .c0
  · exact released

theorem State.Rules.transfer {s : State} (h : s.Rules) (d : DmaId) (j : Chan) : (transfer d j s).Rules := by
  have moved := fun t a => (h.transferRegisters d j).transferData d j t a
  unfold Machine.transfer
  dsimp only
  split
  · exact (moved _ _).transferRelease d j
  · exact moved _ _

/-- The release leaves the collaborators and lowers the TC output (R225). -/
theorem transferRelease_env_tc (d : DmaId) (j : Chan) (s : State) :
    (transferRelease d j s).env = s.env ∧ (transferRelease d j s).tc = false := by
  have cascade : ∀ u, (setRequest .dma1 .c0 false u).env = u.env ∧ (setRequest .dma1 .c0 false u).tc = u.tc :=
    fun u => by rw [setRequest_only .dma1 .c0 false u]; exact ⟨rfl, rfl⟩
  cases d
  · exact cascade _
  · exact ⟨rfl, rfl⟩

/-- A transfer that raises the TC output lowers it again (R223, R225). -/
theorem transfer_tc (d : DmaId) (j : Chan) (s : State) (h : s.tc = false) : (transfer d j s).tc = false := by
  unfold transfer
  dsimp only
  split
  · exact (transferRelease_env_tc d j _).2
  · next hn =>
    rw [transferData_only, transferRegisters_eq]
    exact Bool.or_eq_false_iff.mpr ⟨h, beq_false_of_ne hn⟩

theorem busHold_inv {s : State} (h : s.Inv) : (busHold s).Inv := by
  have granted := h.rules.withFlags true s.tc s.hrq s.outputs s.log
  have cascade := granted.setDma .dma1 (s.dma1.acknowledge .c0) ((h.rules.dma.rules .dma1).acknowledge .c0)
    fun _ => ⟨rfl, rfl⟩
  obtain ⟨-, e⟩ | ⟨-, -, e⟩ | ⟨j, -, -, e⟩ | ⟨j, -, -, e⟩ := busHold_cases s <;> rw [e]
  · exact granted.inv h.terminalCountLow
  · exact cascade.inv h.terminalCountLow
  · exact (cascade.transfer .dma0 j).inv (transfer_tc _ _ _ h.terminalCountLow)
  · exact (granted.transfer .dma1 j).inv (transfer_tc _ _ _ h.terminalCountLow)

/-- A grant leaves the A20 gate (R88). -/
theorem transfer_a20 (d : DmaId) (j : Chan) (s : State) : (transfer d j s).env.a20 = s.env.a20 := by
  have moved : ∀ t a, (transferData d j t a (transferRegisters d j s)).env.a20 = s.env.a20 := by
    intro t a
    rw [(transferData_env d j t a _).1, transferRegisters_eq]
    exact congrArg Env.a20 (State.setDma_env _ _ _)
  unfold transfer
  dsimp only
  split
  · rw [(transferRelease_env_tc d j _).1]
    exact moved _ _
  · exact moved _ _

theorem busHold_a20 (s : State) : (busHold s).env.a20 = s.env.a20 := by
  obtain ⟨-, e⟩ | ⟨-, -, e⟩ | ⟨j, -, -, e⟩ | ⟨j, -, -, e⟩ := busHold_cases s <;> rw [e]
  · exact transfer_a20 _ _ _
  · exact transfer_a20 _ _ _

/-! ## Every operation -/

/-- The operations that call on a collaborator whose state the model holds: memory and the devices, the mouse, the bus,
the A20 gate. -/
def movesCollaborator : Instr → Bool
  | .acknowledgeBusHold | .update | .reset | .kbcCmdA20Disable | .kbcCmdA20Enable | .kbcArgOutport _ => true
  | _ => false

/-- The three device commands that take an argument (43_kbd_device.md R336, R338, R340). -/
def opensSubState : Instr → Bool
  | .kbdCmdSetLeds | .kbdCmdSelectScancodeSet | .kbdCmdSetTypematic => true
  | _ => false

/-- The operation answers a next state that is quiet beside this one. -/
def EndsQuiet (s : State) (r : Result) : Prop := ∃ t, r = .next t ∧ Quiet s t

theorem Quiet.answer {s t : State} (h : Quiet s t) (r : Reply) : EndsQuiet s (answer r t) :=
  ⟨_, rfl, h.env, fun hs => (h.inv hs).withRecord r t.outputs t.log t.inbox⟩

theorem execRequestIrqNumber_quiet (identity : Identity) (s : State) :
    EndsQuiet s (execRequestIrqNumber identity s) := by
  unfold execRequestIrqNumber
  split
  · exact (Quiet.refl s).answer _
  · exact (s.note_quiet _).answer _

/-- The buffer is emptied and, where a byte is queued, filled again (R264). -/
theorem dataReadAux_quiet (s : State) : EndsQuiet s (dataReadAux s) := by
  refine (dataRead_quiet s 12 _ fun h => ?_).answer _
  split
  · exact ⟨by nofun, h.scancodeSet, h.argumentAwaited⟩
  · exact ⟨fun _ => rfl, h.scancodeSet, h.argumentAwaited⟩

/-- The same for the keyboard side (R265). -/
theorem dataReadKbd_quiet (s : State) : EndsQuiet s (dataReadKbd s) := by
  refine (dataRead_quiet s 1 _ fun h => ?_).answer _
  split
  · exact ⟨by nofun, h.scancodeSet, h.argumentAwaited⟩
  · exact ⟨by nofun, h.scancodeSet, h.argumentAwaited⟩

/-- Every other operation is quiet: those of the PIC pair, of the DMA pair, of the keyboard side, and the wide accesses. -/
theorem exec_quiet (i : Instr) (s : State) (hm : movesCollaborator i = false) (ho : opensSubState i = false) :
    EndsQuiet s (exec i s) := by
  cases i with
  | acknowledgeBusHold | update | reset | kbcCmdA20Disable | kbcCmdA20Enable | kbcArgOutport _ => cases hm
  | kbdCmdSetLeds | kbdCmdSelectScancodeSet | kbdCmdSetTypematic => cases ho
  -- the PIC pair
  | pic0Icw1 data | pic1Icw1 data => exact (icw1_quiet _ data s).answer _
  | pic0Ocw3 data | pic1Ocw3 data => exact (ocw3_quiet _ data s).answer _
  | pic0Eoi | pic1Eoi => exact (eoi_quiet _ s).answer _
  | pic0EoiRotate | pic1EoiRotate => exact (eoiRotate_quiet _ s).answer _
  | pic0Seoi level | pic1Seoi level => exact (specificEoi_quiet _ level s).answer _
  | pic0SeoiRotate level | pic1SeoiRotate level => exact (specificEoiRotate_quiet _ level s).answer _
  | pic0SetPriority level | pic1SetPriority level => exact (setPriority_quiet _ level s).answer _
  | pic0Ocw2Nop | pic1Ocw2Nop | pic0Ocw2Reserved _ | pic1Ocw2Reserved _ => exact (s.note_quiet _).answer _
  | pic0RotAeoiSet | pic1RotAeoiSet | pic0RotAeoiClr | pic1RotAeoiClr =>
    exact (setRotateOnAutoEoi_quiet _ _ s).answer _
  | pic0Icw2 data | pic1Icw2 data => exact (icw2_quiet _ data s).answer _
  | pic0Icw3 data | pic1Icw3 data => exact (icw3_quiet _ s).answer _
  | pic0Icw4 data | pic1Icw4 data => exact (icw4_quiet _ data s).answer _
  | pic0Ocw1 data | pic1Ocw1 data => exact (ocw1_quiet _ data s).answer _
  | pic0ReadCmd | pic0ReadMask | pic1ReadCmd | pic1ReadMask => exact (Quiet.refl s).answer _
  | pic0PollCmd | pic0PollMask | pic1PollCmd | pic1PollMask => exact (poll_quiet _ s).answer _
  | setIrq n => exact (setIrq_only n s).quiet.answer _
  | clearIrq n => exact (clearIrq_only n s).quiet.answer _
  | interruptAcknowledge => exact (acknowledge_only s).quiet.answer _
  | requestIrqNumber identity => exact execRequestIrqNumber_quiet identity s
  -- the DMA pair
  | dma0Addr0W data | dma0Addr1W data | dma0Addr2W data | dma0Addr3W data
  | dma1Addr0W data | dma1Addr1W data | dma1Addr2W data | dma1Addr3W data =>
    exact (addressWrite_quiet _ _ data s).answer _
  | dma0Count0W data | dma0Count1W data | dma0Count2W data | dma0Count3W data
  | dma1Count0W data | dma1Count1W data | dma1Count2W data | dma1Count3W data =>
    exact (countWrite_quiet _ _ data s).answer _
  | dma0Addr0R | dma0Addr1R | dma0Addr2R | dma0Addr3R | dma0Count0R | dma0Count1R | dma0Count2R | dma0Count3R
  | dma1Addr0R | dma1Addr1R | dma1Addr2R | dma1Addr3R | dma1Count0R | dma1Count1R | dma1Count2R | dma1Count3R =>
    exact (setFlipflop_quiet s _ _).answer _
  | dma0CommandW data | dma1CommandW data => exact (commandWrite_quiet _ data s).answer _
  | dma0StatusR | dma1StatusR => exact (statusRead_quiet _ s).answer _
  | dma0RequestW _ | dma1RequestW _ => exact (s.note_quiet _).answer _
  | dma0SingleMaskW _ | dma1SingleMaskW _ | dma0ClearMask _ | dma1ClearMask _ | dma0FullMaskW _ | dma1FullMaskW _ =>
    exact (holdEval_setMask_quiet s _ _).answer _
  | dma0ModeW data | dma1ModeW data => exact (modeWrite_quiet _ data s).answer _
  | dma0ClearFlipflop _ | dma1ClearFlipflop _ => exact (setFlipflop_quiet s _ false).answer _
  | dma0MasterClear _ | dma1MasterClear _ => exact (masterClear_quiet _ s).answer _
  | dma0WriteOnlyR9 | dma0WriteOnlyRA | dma0WriteOnlyRB | dma0WriteOnlyRC | dma0WriteOnlyRD | dma0WriteOnlyRE
  | dma0WriteOnlyRF | dma1WriteOnlyR9 | dma1WriteOnlyRA | dma1WriteOnlyRB | dma1WriteOnlyRC | dma1WriteOnlyRD
  | dma1WriteOnlyRE | dma1WriteOnlyRF => exact (Quiet.refl s).answer _
  | dmaPageG0W data | dmaPageG1W data | dmaPageG2W data | dmaPageG3W data
  | dmaPageG4W data | dmaPageG5W data | dmaPageG6W data | dmaPageG7W data =>
    exact (pageWrite_quiet _ _ data s).answer _
  | dmaPageG0R | dmaPageG1R | dmaPageG2R | dmaPageG3R | dmaPageG4R | dmaPageG5R | dmaPageG6R | dmaPageG7R
  | dmaExtpage80R | dmaExtpage84R | dmaExtpage85R | dmaExtpage86R
  | dmaExtpage88R | dmaExtpage8CR | dmaExtpage8DR | dmaExtpage8ER => exact (Quiet.refl s).answer _
  | dmaExtpage80W data | dmaExtpage84W data | dmaExtpage85W data | dmaExtpage86W data
  | dmaExtpage88W data | dmaExtpage8CW data | dmaExtpage8DW data | dmaExtpage8EW data =>
    exact (extWrite_quiet _ data s).answer _
  | registerChannel g handler => exact (registerHandler_quiet g handler s).answer _
  | setDmaRequest g b => exact (setRequest_quiet _ _ b s).answer _
  -- the keyboard controller
  | kbcCmdReadConfig => exact ((commandPrologue_quiet _ s).trans (readConfig_quiet _)).answer _
  | kbcCmdWriteConfig | kbcCmdWriteOutport | kbcCmdWriteKbdOutbuf | kbcCmdWriteAuxOutbuf | kbcCmdWriteToMouse =>
    exact (expectArgument_quiet _ (by decide) s).answer _
  | kbcCmdAuxDisable | kbcCmdAuxEnable => exact ((commandPrologue_quiet _ s).trans (setAuxClock_quiet _ _)).answer _
  | kbcCmdKbdDisable | kbcCmdKbdEnable => exact ((commandPrologue_quiet _ s).trans (setKbdClock_quiet _ _)).answer _
  | kbcCmdAuxTest | kbcCmdKbdIfTest | kbcCmdReadOutport =>
    exact ((commandPrologue_quiet _ s).trans (kbcEnqueue_quiet _ _ _)).answer _
  | kbcCmdSelfTest => exact ((commandPrologue_quiet _ s).trans (selfTest_quiet _)).answer _
  | kbcCmdSystemResetUnimpl | kbcCmdUnsupported data =>
    exact ((commandPrologue_quiet _ s).trans (State.note_quiet _ _)).answer _
  | kbcCmdPulseNop data => exact (commandPrologue_quiet data s).answer _
  | kbcStatusR => exact (statusByteRead_quiet s).answer _
  | kbcDataRAux => exact dataReadAux_quiet s
  | kbcDataRKbd => exact dataReadKbd_quiet s
  | kbcDataREmpty => exact (s.note_quiet _).answer _
  | kbcArgConfig data => exact ((argumentPrologue_quiet s).trans (writeConfig_quiet data _)).answer _
  | kbcArgKbdOutbuf data | kbcArgAuxOutbuf data =>
    exact ((argumentPrologue_quiet s).trans (kbcEnqueue_quiet data _ _)).answer _
  | kbcArgToMouse data => exact ((argumentPrologue_quiet s).trans (State.emit_quiet _ _)).answer _
  | kbcArgUnexpected _ => exact (argumentPrologue_quiet s).answer _
  -- the keyboard device
  | kbdArgTypematic data => exact ((devicePrologue_quiet s).trans (typematicByte_quiet data _)).answer _
  | kbdArgLed data => exact ((devicePrologue_quiet s).trans (ledByte_quiet data _)).answer _
  | kbdArgScancodeSet data => exact ((devicePrologue_quiet s).trans (scancodeSetByte_quiet data _)).answer _
  | kbdCmdEcho => exact ((devicePrologue_quiet s).kbdEnqueue _).answer _
  | kbdCmdIdentify => exact ((devicePrologue_quiet s).trans (identify_quiet _)).answer _
  | kbdCmdEnableScanning => exact (((devicePrologue_quiet s).trans (setScanning_quiet _ true)).kbdEnqueue _).answer _
  | kbdCmdResetDisable | kbdCmdResetEnable =>
    exact ((devicePrologue_quiet s).trans (resetScanning_quiet _ _)).answer _
  | kbdCmdResend => exact ((devicePrologue_quiet s).trans (State.note_quiet _ _)).answer _
  | kbdCmdResetBat => exact ((devicePrologue_quiet s).trans (resetBat_quiet _)).answer _
  | kbdCmdUnrecognized data =>
    exact (((devicePrologue_quiet s).trans (State.note_quiet _ _)).kbdEnqueue _).answer _
  | keyEvent key type side => exact (hostKey_quiet key type side s).answer _
  -- wide accesses
  | inw _ | outw _ _ | ind _ | outd _ _ => exact (s.note_quiet _).answer _

/-- The commands that open a sub-state leave the collaborators too. -/
theorem exec_env_of_opensSubState {i : Instr} (ho : opensSubState i = true) (s : State) :
    ∃ t, exec i s = .next t ∧ t.env = s.env := by
  cases i with
  | kbdCmdSetLeds | kbdCmdSelectScancodeSet | kbdCmdSetTypematic => exact ⟨_, rfl, openSubState_env _ s⟩
  | _ => cases ho

/-- A byte that opens a sub-state comes where none is open (30_encoding.md R112), so one is open after it. -/
theorem exec_inv_of_opensSubState {i : Instr} (ho : opensSubState i = true) {s : State} (h : s.Inv)
    (hs : selectedIn s.decodeCtx i = true) : ∃ t, exec i s = .next t ∧ t.Inv := by
  have opened : ∀ k : Kbd, k.Rules → ∃ t, finish (openSubState k s) = .next t ∧ t.Inv :=
    fun k hk => ⟨_, rfl, (openSubState_inv h hk).withRecord _ _ _ _⟩
  have hb := h.deviceBuffer
  rw [← devicePrologue_kbd s] at hb
  cases i with
  | kbdCmdSetLeds | kbdCmdSelectScancodeSet | kbdCmdSetTypematic =>
    obtain ⟨ht, hl, hc⟩ := subStates_closed hs
    rw [← devicePrologue_kbd s] at ht hl hc
    exact opened _ ⟨hb, by simp [ht, hl, hc]⟩
  | _ => cases ho

/-- The operations that move a collaborator keep the invariant. -/
theorem exec_inv_of_movesCollaborator {i : Instr} (hm : movesCollaborator i = true) {s : State} (h : s.Inv) :
    ∃ t, exec i s = .next t ∧ t.Inv := by
  have answered : ∀ (r : Reply) {t : State}, t.Inv → ∃ u, answer r t = .next u ∧ u.Inv :=
    fun r t ht => ⟨_, rfl, ht.withRecord r t.outputs t.log t.inbox⟩
  cases i with
  | acknowledgeBusHold => exact answered _ (busHold_inv h)
  | update => exact answered _ ((updateCycle_quiet s).inv (pollCycle_inv h))
  | reset => exact answered _ (resetBlock_inv h)
  | kbcCmdA20Disable | kbcCmdA20Enable => exact answered _ (setA20_inv ((commandPrologue_quiet _ s).inv h) _)
  | kbcArgOutport data => exact answered _ (writeOutport_inv ((argumentPrologue_quiet s).inv h) data)
  | _ => cases hm

/-- An operation whose row the state selects keeps the invariant. -/
theorem exec_inv {i : Instr} {s t : State} (h : s.Inv) (hs : selectedIn s.decodeCtx i = true)
    (ht : exec i s = .next t) : t.Inv := by
  have key : ∃ u, exec i s = .next u ∧ u.Inv := by
    cases hm : movesCollaborator i with
    | true => exact exec_inv_of_movesCollaborator hm h
    | false =>
      cases ho : opensSubState i with
      | true => exact exec_inv_of_opensSubState ho h hs
      | false =>
        obtain ⟨u, hu, hq⟩ := exec_quiet i s hm ho
        exact ⟨u, hu, hq.inv h⟩
  obtain ⟨u, hu, hi⟩ := key
  rw [ht] at hu
  cases hu
  exact hi

/-- What each of the operations that move a collaborator does to memory and to the gate. -/
theorem exec_env_of_movesCollaborator {i : Instr} (hm : movesCollaborator i = true) (s : State) :
    ∃ t, exec i s = .next t ∧ (i ≠ .acknowledgeBusHold → t.env.mem = s.env.mem) ∧
      (i ≠ .kbcCmdA20Disable → i ≠ .kbcCmdA20Enable → (∀ data, i ≠ .kbcArgOutport data) →
        t.env.a20 = s.env.a20) := by
  cases i with
  | acknowledgeBusHold => exact ⟨_, rfl, fun hn => absurd rfl hn, fun _ _ _ => busHold_a20 s⟩
  | update => exact ⟨_, rfl, fun _ => (updateCycle_mem_a20 s).1, fun _ _ _ => (updateCycle_mem_a20 s).2⟩
  | reset => exact ⟨_, rfl, fun _ => rfl, fun _ _ _ => rfl⟩
  | kbcCmdA20Disable => exact ⟨_, rfl, fun _ => rfl, fun hn => absurd rfl hn⟩
  | kbcCmdA20Enable => exact ⟨_, rfl, fun _ => rfl, fun _ hn => absurd rfl hn⟩
  | kbcArgOutport data =>
    exact ⟨_, rfl, fun _ => writeOutport_mem data (argumentPrologue s), fun _ _ hn => absurd rfl (hn data)⟩
  | _ => cases hm

/-! ## The collaborators' own moves -/

theorem collaboratorMove_rules {e : Env} (h : e.Rules) (ev : Event) : (collaboratorMove ev e).Rules := by
  refine ⟨h.portOwners.collaboratorMove ev, ?_⟩
  cases ev with
  | memoryByte a b => exact Memory.write_wf a b h.memory
  | deviceUnit d j v => exact (congrArg Memory.wf (Env.setSupply_mem e d j _)).trans h.memory
  | portClaim port =>
    rw [collaboratorMove]
    obtain ⟨-, eq⟩ | ⟨-, -, eq⟩ := claimPort_cases port e <;> rw [eq] <;> exact h.memory
  | op p | mouseByte b | a20Gate on => exact h.memory

/-- What happens at an event keeps the invariant: a routed operation is one that the state selects. -/
theorem handleEvent_inv {e : Event} {s t : State} (h : s.Inv) (ht : handleEvent e s = .next t) : t.Inv := by
  cases e with
  | op p =>
    rw [handleEvent, performOperation] at ht
    split at ht
    · cases ht
    · next i hf => exact exec_inv h (selectedIn_of_fetch hf) ht
  | mouseByte _ | deviceUnit _ _ _ | memoryByte _ _ | a20Gate _ | portClaim _ =>
    cases ht
    exact h.withEnv _ (collaboratorMove_rules h.rules.env _)

/-! ## The channel that a grant serves (41_dma.md R222, R223) -/

/-- The state at which the transfer of a grant on controller `d` begins (R222). -/
def State.granted (s : State) (d : DmaId) : State :=
  match d with
  | .dma0 => { s with hlda := true, dma1 := s.dma1.acknowledge .c0 }
  | .dma1 => { s with hlda := true }

/-- The controller served is as it was before the grant. -/
theorem State.granted_dma (s : State) (d : DmaId) : (s.granted d).dma d = s.dma d := by cases d <;> rfl

theorem busHold_of_grants {s : State} {d : DmaId} {j : Chan} (h : s.Grants d j) :
    busHold s = transfer d j (s.granted d) := by
  cases d with
  | dma0 =>
    obtain ⟨hc, hj⟩ := h
    rw [← Dma.select_eq_some_iff] at hc hj
    simp only [busHold, hc, hj]
    rfl
  | dma1 =>
    obtain ⟨hc, hj⟩ := h
    rw [← Dma.select_eq_some_iff] at hj
    cases j with
    | c0 => exact absurd rfl hc
    | c1 | c2 | c3 => simp only [busHold, hj]; rfl

/-- A channel's step, its address written out for each direction (R223). -/
theorem Channel.stepped_eq (ch : Channel) :
    ch.stepped =
      if ch.curCount == 0 && ch.mode.autoinit then { ch with curAddr := ch.baseAddr, curCount := ch.baseCount }
      else if ch.mode.addrDecrement then { ch with curAddr := ch.curAddr - 1, curCount := ch.curCount - 1 }
      else { ch with curAddr := ch.curAddr + 1, curCount := ch.curCount - 1 } := by
  simp only [Channel.stepped, Bool.and_eq_true, beq_iff_eq]
  split
  · rfl
  · split <;> rfl

/-- A controller after the register part, its terminal-count bit written as a mask (R223). -/
theorem Dma.served_eq (x : Dma) (j : Chan) :
    x.served j = { x with
      chan := x.chan.set j (x.chan.get j).stepped
      dack := (Quad.all false).set j true
      status := if (x.chan.get j).curCount == 0 then x.status ||| (1#8 <<< chanIndex j) else x.status
      mask := if (x.chan.get j).curCount == 0 && !(x.chan.get j).mode.autoinit then x.mask.set j true else x.mask } := by
  rw [Dma.served, setBit_true_eq _ _ (Nat.lt_of_lt_of_le (chanIndex_lt j) (by decide))]
  rfl

/-- The register part gives the state at which the data part begins. -/
theorem transferRegisters_granted (s : State) (d : DmaId) (j : Chan) :
    transferRegisters d j (s.granted d) = s.advanced d j := by
  rw [transferRegisters_eq, Dma.served_eq, Channel.stepped_eq]
  cases d <;> rfl

/-- A grant that serves a channel moves its data at the address formed before, and at terminal count releases the bus. -/
theorem busHold_eq_of_grants {s : State} {d : DmaId} {j : Chan} (h : s.Grants d j) :
    busHold s =
      let t := transferData d j (s.chan d j).mode.transferType (physAddr d (s.chan d j)) (s.advanced d j)
      if (s.chan d j).curCount = 0 then transferRelease d j t else t := by
  have hch : (s.granted d).chan d j = s.chan d j := congrArg (·.chan.get j) (s.granted_dma d)
  rw [busHold_of_grants h, transfer, hch, transferRegisters_granted]

/-! ## The acknowledges after a grant (10_state.md R34) -/

@[simp] theorem transferData_dma (d e : DmaId) (j : Chan) (t : TransferType) (a : PhysAddr) (s : State) :
    (transferData d j t a s).dma e = s.dma e := by
  rw [transferData_only]
  cases e <;> rfl

/-- Channel `j` acknowledged and no other, or none at terminal count. -/
def oneUnless (j : Chan) (last : Prop) [Decidable last] : Quad Bool :=
  if last then Quad.all false else (Quad.all false).set j true

theorem oneUnless_get (j k : Chan) (last : Prop) [Decidable last] :
    (oneUnless j last).get k = true ↔ k = j ∧ ¬last := by
  unfold oneUnless
  split <;> simp [*]

theorem Quad.withdraw_one (j : Chan) : ((Quad.all false).set j true).set j false = Quad.all false := by
  cases j <;> rfl

/-- What a grant that serves a channel leaves of any part of the state: what the data part leaves of it, or at terminal
count what the release makes of that. -/
theorem busHold_observe {α : Type} (f : State → α) {s : State} {d : DmaId} {j : Chan} {moved released : α}
    (h : s.Grants d j) (hm : ∀ t a, f (transferData d j t a (s.advanced d j)) = moved)
    (hr : ∀ u, f u = moved → f (transferRelease d j u) = released) :
    f (busHold s) = if (s.chan d j).curCount = 0 then released else moved := by
  rw [busHold_eq_of_grants h]
  dsimp only
  split
  · exact hr _ (hm _ _)
  · exact hm _ _

/-- The controller served has the one acknowledge of its channel until the release withdraws it. -/
theorem busHold_dack {s : State} {d : DmaId} {j : Chan} (h : s.Grants d j) :
    ((busHold s).dma d).dack = oneUnless j ((s.chan d j).curCount = 0) := by
  refine busHold_observe (fun u => (u.dma d).dack) h (fun t a => ?moved) (fun u hu => ?released)
  case moved =>
    rw [transferData_dma]
    cases d <;> rfl
  case released =>
    have withdrawn : ((transferRelease d j u).dma d).dack = (u.dma d).dack.set j false := by cases d <;> rfl
    rw [withdrawn, hu, Quad.withdraw_one]

/-- With a channel of controller 0, the same of the cascade channel in controller 1. -/
theorem busHold_cascade_dack {s : State} {j : Chan} (h : s.Grants .dma0 j) :
    (busHold s).dma1.dack = oneUnless .c0 ((s.chan .dma0 j).curCount = 0) := by
  refine busHold_observe (fun u => u.dma1.dack) h (fun t a => ?moved) (fun u hu => ?released)
  case moved => exact congrArg Dma.dack (transferData_dma .dma0 .dma1 j t a (s.advanced .dma0 j))
  case released =>
    have withdrawn : (transferRelease .dma0 j u).dma1.dack = u.dma1.dack.set .c0 false := rfl
    rw [withdrawn, hu, Quad.withdraw_one]

/-- A transfer of controller 1 leaves controller 0. -/
theorem busHold_dma0 {s : State} {j : Chan} (h : s.Grants .dma1 j) : (busHold s).dma0 = s.dma0 :=
  (busHold_observe State.dma0 h (fun t a => transferData_dma .dma1 .dma0 j t a (s.advanced .dma1 j))
    (fun _ hu => hu)).trans (ite_self _)

/-! ## The statements -/

/-- Settles O9: the architect's witness, part by part. -/
theorem resetMeetsTheInvariant : Obligations.ResetMeetsTheInvariant := Tests.reset_inv

/-- Settles O10: an empty inbox changes nothing; every event keeps the invariant. -/
theorem everyStepKeepsTheInvariant : Obligations.EveryStepKeepsTheInvariant := by
  intro s t h ht
  cases hb : s.inbox with
  | nil =>
    rw [step_of_inbox_nil hb] at ht
    cases ht
    exact h
  | cons e rest =>
    rw [step_of_inbox_cons hb] at ht
    exact handleEvent_inv (h.withRecord s.reply s.outputs s.log rest) ht

/-- Settles O12: a quiet operation moves no collaborator, the six others are known. -/
theorem memoryAndA20HaveFewWriters : Obligations.MemoryAndA20HaveFewWriters := by
  intro i s t ht
  cases hm : movesCollaborator i with
  | true =>
    obtain ⟨u, hu, he⟩ := exec_env_of_movesCollaborator hm s
    rw [ht] at hu
    cases hu
    exact he
  | false =>
    have he : ∃ u, exec i s = .next u ∧ u.env = s.env := by
      cases ho : opensSubState i with
      | true => exact exec_env_of_opensSubState ho s
      | false =>
        obtain ⟨u, hu, hq⟩ := exec_quiet i s hm ho
        exact ⟨u, hu, hq.env⟩
    obtain ⟨u, hu, he⟩ := he
    rw [ht] at hu
    cases hu
    exact ⟨fun _ => by rw [he], fun _ _ _ => by rw [he]⟩

/-- Settles O38: nothing selected, the cascade channel alone, or a channel served. -/
theorem grantPerformsOneTransfer : Obligations.GrantPerformsOneTransfer := by
  intro s
  refine ⟨fun hn => ?nothing, fun hc hn => ?cascade, fun d j hg => ⟨fun hne => ?more, fun h0 => ?last⟩⟩
  case nothing =>
    rw [← Dma.select_eq_none_iff] at hn
    obtain ⟨-, e⟩ | ⟨h, -⟩ | ⟨j, h, -⟩ | ⟨j, -, h, -⟩ := busHold_cases s
    · exact congrArg finish e
    all_goals rw [hn] at h; cases h
  case cascade =>
    rw [← Dma.select_eq_some_iff] at hc
    rw [← Dma.select_eq_none_iff] at hn
    show finish (busHold s) = _
    simp only [busHold, hc, hn]
    rfl
  case more => exact congrArg finish ((busHold_eq_of_grants hg).trans (if_neg hne))
  case last => exact congrArg finish ((busHold_eq_of_grants hg).trans (if_pos h0))

/-- Settles O44: the acknowledges that the grant leaves in each controller. -/
theorem grantAcknowledgesTheChannelServed : Obligations.GrantAcknowledgesTheChannelServed := by
  intro s d j hg
  refine ⟨{ busHold s with reply := .done }, rfl, fun k => ?served, ?cascade, ?other⟩
  case served =>
    have hd : (State.dma { busHold s with reply := .done } d) = (busHold s).dma d := by cases d <;> rfl
    rw [hd, busHold_dack hg, oneUnless_get]
  case cascade =>
    rintro rfl k
    exact (busHold_cascade_dack hg ▸ oneUnless_get .c0 k _ :)
  case other =>
    rintro rfl
    exact busHold_dma0 hg

/-- Settles O7, element by element. -/
theorem resetStateHoldsTheSpecValues : Obligations.ResetStateHoldsTheSpecValues := by
  refine ⟨rfl, rfl, fun _ => rfl, ?channels, ?flags, ?registers, ?extPages, rfl, rfl, rfl, rfl, rfl, rfl⟩
  case channels => rintro (_ | _) (_ | _ | _ | _) <;> rfl
  case flags => rintro (_ | _) (_ | _ | _ | _) <;> exact ⟨rfl, rfl, rfl⟩
  case registers => rintro (_ | _) <;> exact ⟨rfl, rfl, rfl, rfl⟩
  case extPages => rintro (_ | _ | _ | _ | _ | _ | _ | _) <;> rfl

end Sys2Proof.Machine

/-! The owned ports and the packet's fields (spec/20_memory.md R70, R71; spec/30_encoding.md R117), what a byte access to a
port can change (20_memory.md R71), wide accesses (R73), and the address of a transfer (R77, R79). -/

namespace Sys2Proof

/-! ## Unpacking a packet -/

/-- The field that each bit of a packet belongs to (30_encoding.md R117). -/
theorem getLsbD_pack (f : Fields) (k : Nat) : (pack f).getLsbD k =
    if k < 8 then f.data.getLsbD k
    else if k < 24 then f.port.getLsbD (k - 8)
    else if k < 25 then f.write
    else if k < 28 then f.cls.getLsbD (k - 25)
    else if k < 32 then f.high.getLsbD (k - 28)
    else if k < 64 then f.argA.getLsbD (k - 32)
    else f.argB.getLsbD (k - 64) := by
  change BitVec.getLsbD (w := 32 + 32 + 4 + 3 + 1 + 16 + 8)
    (f.argB ++ f.argA ++ f.high ++ f.cls ++ BitVec.ofBool f.write ++ f.port ++ f.data) k = _
  simp only [BitVec.getLsbD_append, BitVec.getLsbD_ofBool]
  grind

/-- No field of a packet is lost. -/
@[simp] theorem unpack_pack (f : Fields) : unpack (pack f) = f := by
  obtain ⟨high, cls, write, port, data, argA, argB⟩ := f
  simp only [unpack, Fields.mk.injEq]
  refine ⟨?high, ?cls, ?write, ?port, ?data, ?argA, ?argB⟩
  case write => rw [getLsbD_pack]; rfl
  all_goals
    refine BitVec.eq_of_getLsbD_eq fun k hk => ?_
    rw [BitVec.getLsbD_extractLsb', getLsbD_pack]
    grind

/-! ## The owned ports (20_memory.md R71) -/

/-- The owned ports outside the three blocks: the PIC pair's and the keyboard controller's. -/
def singlePorts : List PortNo := [0x20, 0x21, 0xA0, 0xA1, 0x60, 0x64]

/-- The owned ports are three blocks and six single ports. -/
theorem ownedPort_iff (p : PortNo) : ownedPort p = true ↔
    p.toNat < 0x10 ∨ (0x80 ≤ p.toNat ∧ p.toNat ≤ 0x8F) ∨ (0xC0 ≤ p.toNat ∧ p.toNat ≤ 0xDE ∧ p.toNat % 2 = 0) ∨
      p ∈ singlePorts := by
  simp [ownedPort, singlePorts, BitVec.lt_def, BitVec.le_def, BitVec.getLsbD, or_assoc, and_assoc, Nat.testBit_zero]

theorem blocks_mem_ownedPorts : ∀ k < 0x10, BitVec.ofNat 16 k ∈ Machine.ownedPorts ∧
    BitVec.ofNat 16 (0x80 + k) ∈ Machine.ownedPorts ∧ BitVec.ofNat 16 (0xC0 + 2 * k) ∈ Machine.ownedPorts := by
  decide

theorem singlePorts_subset : singlePorts ⊆ Machine.ownedPorts := by decide

theorem ownedPort_of_mem : ∀ p ∈ Machine.ownedPorts, ownedPort p = true := List.all_eq_true.mp (by decide)

/-- The predicate and the list of 54 agree: a port of a block is its base and an offset. -/
theorem ownedPort_iff_mem (p : PortNo) : ownedPort p = true ↔ p ∈ Machine.ownedPorts := by
  refine ⟨fun h => ?_, ownedPort_of_mem p⟩
  have numbered {n : Nat} (hn : p.toNat = n) (hm : BitVec.ofNat 16 n ∈ Machine.ownedPorts) :
      p ∈ Machine.ownedPorts := by
    rwa [← hn, BitVec.ofNat_toNat, BitVec.setWidth_eq] at hm
  obtain hlow | ⟨h80, h8F⟩ | ⟨hC0, hDE, heven⟩ | hsingle := (ownedPort_iff p).mp h
  · exact numbered rfl (blocks_mem_ownedPorts _ hlow).1
  · obtain ⟨-, hm, -⟩ := blocks_mem_ownedPorts (p.toNat - 0x80) (by omega)
    exact numbered (by omega) hm
  · obtain ⟨-, -, hm⟩ := blocks_mem_ownedPorts ((p.toNat - 0xC0) / 2) (by omega)
    exact numbered (by omega) hm
  · exact singlePorts_subset hsingle

/-! ## The decoder's owner of a port (20_memory.md R71, R72) -/

/-- A block of sixteen ports, by the upper twelve bits of the port. -/
theorem upperBits_eq_iff (p : PortNo) {b : Nat} (hb : b < 2 ^ 12) :
    p.extractLsb' 4 12 = BitVec.ofNat 12 b ↔ 16 * b ≤ p.toNat ∧ p.toNat < 16 * b + 16 := by
  have hp := p.isLt
  rw [← BitVec.toNat_inj, BitVec.extractLsb'_toNat, BitVec.toNat_ofNat, Nat.shiftRight_eq_div_pow]
  omega

/-- The block of controller 1, the even ports of 0xC0 to 0xDE. -/
theorem evenBlock_iff (p : PortNo) : p.extractLsb' 5 11 = 0b110#11 ∧ p.getLsbD 0 = false ↔
    0xC0 ≤ p.toNat ∧ p.toNat ≤ 0xDE ∧ p.toNat % 2 = 0 := by
  have hp := p.isLt
  rw [← BitVec.toNat_inj, BitVec.extractLsb'_toNat, BitVec.toNat_ofNat, Nat.shiftRight_eq_div_pow, BitVec.getLsbD,
    Nat.testBit_zero, decide_eq_false_iff_not]
  omega

/-- What is left of the ports after each of the decoder's tests has failed. -/
theorem portReg_eq_none (p : PortNo) : portReg p = none ↔
    p ∉ singlePorts ∧ p.extractLsb' 4 12 ≠ 0#12 ∧ p.extractLsb' 4 12 ≠ 8#12 ∧
      ¬(p.extractLsb' 5 11 = 0b110#11 ∧ p.getLsbD 0 = false) := by
  simp [portReg, ite_eq_iff, singlePorts, and_assoc]

/-- The decoder finds an owner for the owned ports alone. -/
theorem portReg_eq_none_iff (p : PortNo) : portReg p = none ↔ ownedPort p = false := by
  have h0 := upperBits_eq_iff p (b := 0) (by decide)
  have h8 := upperBits_eq_iff p (b := 8) (by decide)
  rw [portReg_eq_none, Ne, Ne, h0, h8, evenBlock_iff, ← Bool.not_eq_true (ownedPort p), ownedPort_iff]
  grind

/-- An access of any width to a port outside the block names the port (93_implementation_defined.md U28). -/
theorem decodeFields_of_not_owned (c : DecodeCtx) {f : Fields} (hh : f.high = 0)
    (hc : f.cls = 0 ∨ f.cls = 1 ∨ f.cls = 2) (hp : ownedPort f.port = false) :
    decodeFields c f = .error (.unownedPort f.port) := by
  have hr : portReg f.port = none := (portReg_eq_none_iff _).mpr hp
  have wide : decodeWide f = .error (.unownedPort f.port) := by simp [decodeWide, hr]
  obtain h | h | h := hc
  · simp [decodeFields, hh, h, hr]
  · simp [decodeFields, hh, h, wide]
  · simp [decodeFields, hh, h, wide]

/-- Settles O4: the list of 54, and the decoder on the unpacked fields. -/
theorem unownedPortsAreRejected : Obligations.UnownedPortsAreRejected := by
  refine ⟨ownedPort_iff_mem, fun c cls write port data a b hc hp => ?_⟩
  rw [decode, unpack_pack]
  exact decodeFields_of_not_owned c rfl hc hp

end Sys2Proof

namespace Sys2Proof.Machine

/-! ## Wide accesses (20_memory.md R73) -/

/-- Settles O14: a wide access answers and logs. -/
theorem wideAccessesChangeNothing : Obligations.WideAccessesChangeNothing := by
  intro port v w s
  exact ⟨rfl, rfl, rfl, rfl⟩

/-! ## The address of a transfer (20_memory.md R77, R79) -/

/-- Each bit of an address: the page from bit 16 on, and the current address from the controller's shift on. -/
theorem getLsbD_physAddr (d : DmaId) (ch : Channel) {k : Nat} (hk : k < 24) : (physAddr d ch).getLsbD k =
    (decide (16 ≤ k) && ch.page.getLsbD (k - 16) ||
      decide (unitShift d ≤ k) && ch.curAddr.getLsbD (k - unitShift d)) := by
  have page : BitVec.getLsbD (w := 24) (ch.page ++ 0#16) k = (decide (16 ≤ k) && ch.page.getLsbD (k - 16)) := by
    change BitVec.getLsbD (w := 8 + 16) (ch.page ++ 0#16) k = _
    rw [BitVec.getLsbD_append]
    grind
  rw [physAddr, BitVec.getLsbD_or, page, BitVec.getLsbD_shiftLeft, BitVec.getLsbD_setWidth]
  grind

/-- Controller 0: no bit of the page meets one of the current address. -/
theorem physAddr_dma0 (ch : Channel) : physAddr .dma0 ch = ch.page ++ ch.curAddr := by
  refine BitVec.eq_of_getLsbD_eq fun k hk => ?_
  change _ = BitVec.getLsbD (w := 8 + 16) (ch.page ++ ch.curAddr) k
  rw [getLsbD_physAddr .dma0 ch hk, BitVec.getLsbD_append]
  grind [unitShift]

/-- Controller 1: the top bit of the current address meets bit 0 of the page (D10). -/
theorem physAddr_dma1 (ch : Channel) :
    physAddr .dma1 ch = (ch.page ||| (ch.curAddr >>> 15).setWidth 8) ++ (ch.curAddr <<< 1) := by
  refine BitVec.eq_of_getLsbD_eq fun k hk => ?_
  change _ = BitVec.getLsbD (w := 8 + 16) ((ch.page ||| (ch.curAddr >>> 15).setWidth 8) ++ (ch.curAddr <<< 1)) k
  rw [getLsbD_physAddr .dma1 ch hk, BitVec.getLsbD_append, BitVec.getLsbD_or, BitVec.getLsbD_setWidth,
    BitVec.getLsbD_ushiftRight, BitVec.getLsbD_shiftLeft]
  grind [unitShift]

/-- Settles O43: the two closed forms; bit 0 is below the page and below the shift. -/
theorem transferAddressIsPageOverAddress : Obligations.TransferAddressIsPageOverAddress := by
  intro ch
  exact ⟨physAddr_dma0 ch, physAddr_dma1 ch, getLsbD_physAddr .dma1 ch (by decide)⟩

end Sys2Proof.Machine

namespace Sys2Proof.Machine

/-! ## What an access to a port can change (20_memory.md R71, 10_state.md R44) -/

/-- The components that own ports; what is neither the PIC pair's nor the keyboard's is the DMA pair's. -/
inductive Component where
  | pic
  | kbc
  | dma

/-- The owner of a port of the block. -/
def componentOf (p : PortNo) : Component := if picPort p then .pic else if kbcPort p then .kbc else .dma

/-- From `s` to `t` only what an access to this component's ports may change has changed. -/
def Component.Reaches : Component → State → State → Prop
  | .pic, s, t => t = { s with master := t.master, slave := t.slave, intr := t.intr, reply := t.reply, log := t.log }
  | .kbc, s, t => t = { s with
      kbc := t.kbc, kbd := t.kbd, env := { s.env with a20 := t.env.a20 }
      master := { s.master with irr := t.master.irr, irqPin := t.master.irqPin }
      slave := { s.slave with irr := t.slave.irr, irqPin := t.slave.irqPin }
      reply := t.reply, outputs := t.outputs, log := t.log }
  | .dma, s, t => t = { s with
      dma0 := t.dma0, dma1 := t.dma1, ext := t.ext, hrq := t.hrq, reply := t.reply, log := t.log }

namespace Component

theorem Reaches.refl (c : Component) (s : State) : c.Reaches s s := by cases c <;> rfl

theorem Reaches.trans {c : Component} {s t u : State} (h : c.Reaches s t) (h' : c.Reaches t u) : c.Reaches s u := by
  cases c <;> (simp only [Reaches] at *; rw [h', h])

/-- The reply and the log are in reach of every access. -/
theorem reaches_record (c : Component) (s : State) (r : Reply) (l : List LogKind) :
    c.Reaches s { s with reply := r, log := l } := by
  cases c <;> rfl

theorem reaches_note (c : Component) (s : State) (k : LogKind) : c.Reaches s (s.note k) :=
  c.reaches_record s s.reply (s.log ++ [k])

theorem reaches_noteIf (c : Component) (s : State) (b : Bool) (k : LogKind) : c.Reaches s (s.noteIf b k) := by
  cases b
  · exact .refl c s
  · exact c.reaches_note s k

/-- An operation that ends in reach of where it began. -/
def EndsInReach (c : Component) (s : State) (r : Result) : Prop := ∃ t, r = .next t ∧ c.Reaches s t

theorem Reaches.answer {c : Component} {s t : State} (h : c.Reaches s t) (r : Reply) : c.EndsInReach s (answer r t) :=
  ⟨_, rfl, h.trans (c.reaches_record t r t.log)⟩

end Component

/-! ### The PIC pair -/

theorem PicOnly.reaches {s t : State} (h : PicOnly s t) : Component.pic.Reaches s t := by
  obtain ⟨m, v, i, rfl⟩ : ∃ m v i, t = { s with master := m, slave := v, intr := i } := ⟨_, _, _, h.1⟩
  rfl

theorem setPic_reaches (s : State) (c : PicId) (p : Pic) : Component.pic.Reaches s (s.setPic c p) := by
  cases c <;> rfl

theorem service_setPic_reaches (s : State) (c : PicId) (p : Pic) :
    Component.pic.Reaches s (service c (s.setPic c p)) :=
  (setPic_reaches s c p).trans (service_only c _).reaches

theorem icw1_reaches (c : PicId) (data : Byte) (s : State) : Component.pic.Reaches s (icw1 c data s) := by
  cases c <;> rfl

theorem icw4_reaches (c : PicId) (data : Byte) (s : State) : Component.pic.Reaches s (icw4 c data s) :=
  (setPic_reaches s c { s.pic c with autoEoi := icw4Aeoi data, inInit := false }).trans
    (Component.reaches_noteIf _ _ _ _)

theorem ocw3_reaches (c : PicId) (data : Byte) (s : State) : Component.pic.Reaches s (ocw3 c data s) := by
  unfold ocw3
  dsimp only
  split
  · exact setPic_reaches s c _
  · split
    · exact service_setPic_reaches s c _
    · exact setPic_reaches s c _

/-! ### The DMA pair -/

theorem DmaOnly.reaches {s t : State} (h : DmaOnly s t) : Component.dma.Reaches s t := by
  obtain ⟨x, y, q, l, rfl⟩ : ∃ x y q l, t = { s with dma0 := x, dma1 := y, hrq := q, log := l } := ⟨_, _, _, _, h⟩
  rfl

theorem setDma_reaches (s : State) (d : DmaId) (x : Dma) : Component.dma.Reaches s (s.setDma d x) :=
  (setDma_only s d x).reaches

/-- A channel's halves written, and the flip-flop toggled (R205, R206). -/
theorem toggleFlipflop_setChan_reaches (s : State) (d : DmaId) (j : Chan) (ch : Channel) :
    Component.dma.Reaches s (toggleFlipflop d (s.setChan d j ch)) :=
  (setDma_reaches s d _).trans (setDma_reaches _ d _)

/-- A controller written, and arbitration. -/
theorem holdEval_setDma_reaches (s : State) (d : DmaId) (x : Dma) :
    Component.dma.Reaches s (holdEval d (s.setDma d x)) :=
  (setDma_reaches s d x).trans (holdEval_only d _).reaches

theorem commandWrite_reaches (d : DmaId) (data : Byte) (s : State) :
    Component.dma.Reaches s (commandWrite d data s) :=
  (noteIf_only s (commandUnsupported data) (.dmaCommandBits d data)).reaches.trans (holdEval_setDma_reaches _ d _)

theorem extWrite_reaches (x : ExtSlot) (data : Byte) (s : State) : Component.dma.Reaches s (extWrite x data s) := rfl

/-! ### The keyboard controller and the keyboard device -/

theorem KbdOnly.reaches {s t : State} (h : KbdOnly s t) : Component.kbc.Reaches s t := by
  obtain ⟨k, l, o, g, rfl⟩ : ∃ k l o g, t = { s with kbc := k, kbd := l, outputs := o, log := g } :=
    ⟨_, _, _, _, h⟩
  rfl

/-- New contents of the two. -/
theorem KbdOnly.setKeyboard (s : State) (k : Kbc) (l : Kbd) : KbdOnly s { s with kbc := k, kbd := l } := rfl

theorem KbdOnly.note (s : State) (k : LogKind) : KbdOnly s (s.note k) := rfl

theorem KbdOnly.emit (s : State) (o : Output) : KbdOnly s (s.emit o) := rfl

theorem KbdOnly.kbdEnqueue {s t : State} (h : KbdOnly s t) (b : Byte) : KbdOnly s (kbdEnqueue b t) :=
  h.trans (kbdEnqueue_only b t)

theorem commandPrologue_only (data : Byte) (s : State) : KbdOnly s (commandPrologue data s) := .setKeyboard s _ _

theorem expectArgument_only (s : State) : KbdOnly s (expectArgument s) := .setKeyboard s _ _

theorem argumentPrologue_only (s : State) : KbdOnly s (argumentPrologue s) := .setKeyboard s _ _

theorem readConfig_only (s : State) : KbdOnly s (readConfig s) := by
  unfold readConfig
  split
  · exact .note s _
  · exact kbcEnqueue_only _ _ s

theorem selfTest_only (s : State) : KbdOnly s (selfTest s) :=
  (KbdOnly.setKeyboard s _ s.kbd).trans (kbcEnqueue_only _ _ _)

theorem writeConfig_only (data : Byte) (s : State) : KbdOnly s (writeConfig data s) := by
  unfold writeConfig
  dsimp only
  have clocks (k : Kbc) : KbdOnly s (setAuxClock (!configAuxClockOff data) (setKbdClock (!configKbdClockOff data)
      { s with kbc := k })) :=
    (KbdOnly.setKeyboard s k s.kbd).trans ((setKbdClock_only _ _).trans (setAuxClock_only _ _))
  split
  · exact (clocks _).trans (.setKeyboard _ _ _)
  · split
    · exact (clocks _).trans (.setKeyboard _ _ _)
    · exact clocks _

theorem devicePrologue_only (s : State) : KbdOnly s (devicePrologue s) := by
  rw [devicePrologue_eq]
  exact .setKeyboard s _ _

/-- The device moves and then answers. -/
theorem kbdEnqueue_setKeyboard_only (b : Byte) (s : State) (k : Kbc) (l : Kbd) :
    KbdOnly s (kbdEnqueue b { s with kbc := k, kbd := l }) :=
  (KbdOnly.setKeyboard s k l).kbdEnqueue b

theorem typematicByte_only (data : Byte) (s : State) : KbdOnly s (typematicByte data s) :=
  kbdEnqueue_setKeyboard_only _ s s.kbc _

theorem ledByte_only (data : Byte) (s : State) : KbdOnly s (ledByte data s) :=
  KbdOnly.kbdEnqueue (.trans (.setKeyboard s s.kbc _) (.trans (.emit _ _) (.trans (.emit _ _) (.emit _ _)))) _

theorem scancodeSetByte_only (data : Byte) (s : State) : KbdOnly s (scancodeSetByte data s) := by
  have leave := KbdOnly.setKeyboard s s.kbc { s.kbd with expectingScancodeSet := false }
  unfold scancodeSetByte
  dsimp only
  split
  · exact (leave.kbdEnqueue _).kbdEnqueue _
  · split
    · exact (leave.trans (.setKeyboard _ _ _)).kbdEnqueue _
    · exact (leave.trans (.note _ _)).kbdEnqueue _

theorem identify_only (s : State) : KbdOnly s (identify s) :=
  (((KbdOnly.refl s).kbdEnqueue _).kbdEnqueue _).kbdEnqueue _

theorem resetInternals_only (s : State) : KbdOnly s (resetInternals s) := .setKeyboard s _ _

theorem resetScanning_only (on : Bool) (s : State) : KbdOnly s (resetScanning on s) :=
  ((resetInternals_only s).kbdEnqueue _).trans (.setKeyboard _ _ _)

theorem resetBat_only (s : State) : KbdOnly s (resetBat s) :=
  (((resetInternals_only s).kbdEnqueue _).trans (.setKeyboard _ _ _)).kbdEnqueue _

/-- A line that goes down takes its pin and its request bit with it, and no other field of the PIC pair (40_pic.md R144). -/
theorem clearIrq_reaches (n : BitVec 4) (s : State) : Component.kbc.Reaches s (clearIrq n s) := by
  rw [clearIrq_frame]
  rfl

/-- The end of a read of port 0x60 (42_kbc.md R264, R265). -/
theorem dataRead_reaches (s : State) (n : BitVec 4) (k : Kbc) :
    Component.kbc.Reaches s (activateTimer (clearIrq n { s with kbc := k })) :=
  (KbdOnly.setKeyboard s k s.kbd).reaches.trans
    ((clearIrq_reaches n _).trans (KbdOnly.setKeyboard _ _ _).reaches)

theorem setA20_reaches (b : Bool) (s : State) : Component.kbc.Reaches s (setA20 b s) := rfl

theorem writeOutport_reaches (data : Byte) (s : State) : Component.kbc.Reaches s (writeOutport data s) := by
  unfold writeOutport
  dsimp only
  split
  · exact setA20_reaches _ s
  · exact (setA20_reaches _ s).trans (KbdOnly.emit _ _).reaches

/-! ### Every byte access -/

/-- A byte access ends in reach of its port's component. -/
theorem exec_endsInReach (i : Instr) (s : State) (hc : (encodeFields i).cls = 0) :
    (componentOf (encodeFields i).port).EndsInReach s (exec i s) := by
  cases i with
  | inw _ | outw _ _ | ind _ | outd _ _ => simp [encodeFields, wideWord] at hc
  | setIrq _ | clearIrq _ | requestIrqNumber _ | interruptAcknowledge | registerChannel _ _ | setDmaRequest _ _
  | acknowledgeBusHold | update | keyEvent _ _ _ | reset => simp [encodeFields, sigWord] at hc
  -- the PIC pair
  | pic0Icw1 data | pic1Icw1 data => exact (icw1_reaches _ data s).answer _
  | pic0Ocw3 data | pic1Ocw3 data => exact (ocw3_reaches _ data s).answer _
  | pic0Eoi | pic1Eoi | pic0EoiRotate | pic1EoiRotate | pic0Seoi _ | pic1Seoi _ | pic0SeoiRotate _
  | pic1SeoiRotate _ | pic0Ocw1 _ | pic1Ocw1 _ | pic0PollCmd | pic0PollMask | pic1PollCmd | pic1PollMask =>
    exact (service_setPic_reaches s _ _).answer _
  | pic0SetPriority _ | pic1SetPriority _ | pic0RotAeoiSet | pic1RotAeoiSet | pic0RotAeoiClr | pic1RotAeoiClr
  | pic0Icw2 _ | pic1Icw2 _ | pic0Icw3 _ | pic1Icw3 _ => exact (setPic_reaches s _ _).answer _
  | pic0Ocw2Nop | pic1Ocw2Nop | pic0Ocw2Reserved _ | pic1Ocw2Reserved _ =>
    exact (Component.reaches_note _ s _).answer _
  | pic0Icw4 data | pic1Icw4 data => exact (icw4_reaches _ data s).answer _
  | pic0ReadCmd | pic0ReadMask | pic1ReadCmd | pic1ReadMask => exact (Component.Reaches.refl _ s).answer _
  -- the DMA pair
  | dma0Addr0W _ | dma0Addr1W _ | dma0Addr2W _ | dma0Addr3W _ | dma0Count0W _ | dma0Count1W _ | dma0Count2W _
  | dma0Count3W _ | dma1Addr0W _ | dma1Addr1W _ | dma1Addr2W _ | dma1Addr3W _ | dma1Count0W _ | dma1Count1W _
  | dma1Count2W _ | dma1Count3W _ => exact (toggleFlipflop_setChan_reaches s _ _ _).answer _
  | dma0Addr0R | dma0Addr1R | dma0Addr2R | dma0Addr3R | dma0Count0R | dma0Count1R | dma0Count2R | dma0Count3R
  | dma1Addr0R | dma1Addr1R | dma1Addr2R | dma1Addr3R | dma1Count0R | dma1Count1R | dma1Count2R | dma1Count3R
  | dma0StatusR | dma1StatusR | dma0ClearFlipflop _ | dma1ClearFlipflop _ | dma0ModeW _ | dma1ModeW _
  | dmaPageG0W _ | dmaPageG1W _ | dmaPageG2W _ | dmaPageG3W _ | dmaPageG4W _ | dmaPageG5W _ | dmaPageG6W _
  | dmaPageG7W _ => exact (setDma_reaches s _ _).answer _
  | dma0CommandW data | dma1CommandW data => exact (commandWrite_reaches _ data s).answer _
  | dma0RequestW _ | dma1RequestW _ => exact (Component.reaches_note _ s _).answer _
  | dma0SingleMaskW _ | dma1SingleMaskW _ | dma0ClearMask _ | dma1ClearMask _ | dma0FullMaskW _ | dma1FullMaskW _
  | dma0MasterClear _ | dma1MasterClear _ => exact (holdEval_setDma_reaches s _ _).answer _
  | dmaExtpage80W data | dmaExtpage84W data | dmaExtpage85W data | dmaExtpage86W data
  | dmaExtpage88W data | dmaExtpage8CW data | dmaExtpage8DW data | dmaExtpage8EW data =>
    exact (extWrite_reaches _ data s).answer _
  | dma0WriteOnlyR9 | dma0WriteOnlyRA | dma0WriteOnlyRB | dma0WriteOnlyRC | dma0WriteOnlyRD | dma0WriteOnlyRE
  | dma0WriteOnlyRF | dma1WriteOnlyR9 | dma1WriteOnlyRA | dma1WriteOnlyRB | dma1WriteOnlyRC | dma1WriteOnlyRD
  | dma1WriteOnlyRE | dma1WriteOnlyRF
  | dmaPageG0R | dmaPageG1R | dmaPageG2R | dmaPageG3R | dmaPageG4R | dmaPageG5R | dmaPageG6R | dmaPageG7R
  | dmaExtpage80R | dmaExtpage84R | dmaExtpage85R | dmaExtpage86R
  | dmaExtpage88R | dmaExtpage8CR | dmaExtpage8DR | dmaExtpage8ER => exact (Component.Reaches.refl _ s).answer _
  -- the keyboard controller
  | kbcCmdReadConfig => exact ((commandPrologue_only _ s).trans (readConfig_only _)).reaches.answer _
  | kbcCmdWriteConfig | kbcCmdWriteOutport | kbcCmdWriteKbdOutbuf | kbcCmdWriteAuxOutbuf | kbcCmdWriteToMouse =>
    exact ((commandPrologue_only _ s).trans (expectArgument_only _)).reaches.answer _
  | kbcCmdAuxDisable | kbcCmdAuxEnable =>
    exact ((commandPrologue_only _ s).trans (setAuxClock_only _ _)).reaches.answer _
  | kbcCmdKbdDisable | kbcCmdKbdEnable =>
    exact ((commandPrologue_only _ s).trans (setKbdClock_only _ _)).reaches.answer _
  | kbcCmdAuxTest | kbcCmdKbdIfTest | kbcCmdReadOutport =>
    exact ((commandPrologue_only _ s).trans (kbcEnqueue_only _ _ _)).reaches.answer _
  | kbcCmdSelfTest => exact ((commandPrologue_only _ s).trans (selfTest_only _)).reaches.answer _
  | kbcCmdA20Disable | kbcCmdA20Enable =>
    exact ((commandPrologue_only _ s).reaches.trans (setA20_reaches _ _)).answer _
  | kbcCmdSystemResetUnimpl | kbcCmdUnsupported data =>
    exact ((commandPrologue_only _ s).trans (.note _ _)).reaches.answer _
  | kbcCmdPulseNop data => exact (commandPrologue_only data s).reaches.answer _
  | kbcStatusR => exact (KbdOnly.setKeyboard s _ s.kbd).reaches.answer _
  | kbcDataRAux | kbcDataRKbd => exact (dataRead_reaches s _ _).answer _
  | kbcDataREmpty => exact (Component.reaches_note _ s _).answer _
  | kbcArgConfig data => exact ((argumentPrologue_only s).trans (writeConfig_only data _)).reaches.answer _
  | kbcArgOutport data => exact ((argumentPrologue_only s).reaches.trans (writeOutport_reaches data _)).answer _
  | kbcArgKbdOutbuf data | kbcArgAuxOutbuf data =>
    exact ((argumentPrologue_only s).trans (kbcEnqueue_only data _ _)).reaches.answer _
  | kbcArgToMouse data => exact ((argumentPrologue_only s).trans (.emit _ _)).reaches.answer _
  | kbcArgUnexpected _ => exact (argumentPrologue_only s).reaches.answer _
  -- the keyboard device
  | kbdArgTypematic data => exact ((devicePrologue_only s).trans (typematicByte_only data _)).reaches.answer _
  | kbdArgLed data => exact ((devicePrologue_only s).trans (ledByte_only data _)).reaches.answer _
  | kbdArgScancodeSet data => exact ((devicePrologue_only s).trans (scancodeSetByte_only data _)).reaches.answer _
  | kbdCmdSetLeds | kbdCmdSelectScancodeSet | kbdCmdSetTypematic | kbdCmdEnableScanning =>
    exact ((devicePrologue_only s).trans (kbdEnqueue_setKeyboard_only _ _ (devicePrologue s).kbc _)).reaches.answer _
  | kbdCmdEcho => exact ((devicePrologue_only s).kbdEnqueue _).reaches.answer _
  | kbdCmdIdentify => exact ((devicePrologue_only s).trans (identify_only _)).reaches.answer _
  | kbdCmdResetDisable | kbdCmdResetEnable =>
    exact ((devicePrologue_only s).trans (resetScanning_only _ _)).reaches.answer _
  | kbdCmdResend => exact ((devicePrologue_only s).trans (.note _ _)).reaches.answer _
  | kbdCmdResetBat => exact ((devicePrologue_only s).trans (resetBat_only _)).reaches.answer _
  | kbdCmdUnrecognized data => exact (((devicePrologue_only s).trans (.note _ _)).kbdEnqueue _).reaches.answer _

theorem exec_reaches {i : Instr} {s t : State} (hc : (encodeFields i).cls = 0) (ht : exec i s = .next t) :
    (componentOf (encodeFields i).port).Reaches s t := by
  obtain ⟨u, hu, h⟩ := exec_endsInReach i s hc
  rw [ht] at hu
  cases hu
  exact h

/-! ### The three groups of ports -/

theorem componentOf_pic {p : PortNo} (h : picPort p = true) : componentOf p = .pic := if_pos h

theorem componentOf_kbc {p : PortNo} (h : kbcPort p = true) : componentOf p = .kbc := by
  simp only [kbcPort, Bool.or_eq_true, beq_iff_eq] at h
  obtain rfl | rfl := h <;> rfl

theorem componentOf_dma {p : PortNo} (hp : picPort p = false) (hk : kbcPort p = false) : componentOf p = .dma := by
  simp [componentOf, hp, hk]

/-- Settles O13: what an access reaches, component by component. -/
theorem portsReachTheirComponentOnly : Obligations.PortsReachTheirComponentOnly := by
  intro i s t hc ht
  have reaches := exec_reaches hc ht
  refine ⟨fun hp => ?pic, fun hk => ?kbc, fun hp hk => ?dma⟩
  case pic => rwa [componentOf_pic hp] at reaches
  case kbc => rwa [componentOf_kbc hk] at reaches
  case dma => rwa [componentOf_dma hp hk] at reaches

end Sys2Proof.Machine

/-! The encoder and the decoder agree (spec/30_encoding.md R100 to R117): the access that each register's rows encode to,
the operation that each row's packet decodes to, and the table words that the spec writes out. -/

namespace Sys2Proof

/-! ## The port of a register (20_memory.md R71) -/

/-- The index of a DMA controller's register (30_encoding.md R107). -/
def DmaReg.index : DmaReg → Nat
  | .addr j => 2 * Machine.chanIndex j
  | .count j => 2 * Machine.chanIndex j + 1
  | .commandStatus => 0x8
  | .request => 0x9
  | .singleMask => 0xA
  | .mode => 0xB
  | .clearFlipflop => 0xC
  | .masterClear => 0xD
  | .clearMask => 0xE
  | .fullMask => 0xF

/-- The port that `portReg` finds a register at. -/
def PortReg.port : PortReg → PortNo
  | .picCommand .master => 0x20
  | .picMask .master => 0x21
  | .picCommand .slave => 0xA0
  | .picMask .slave => 0xA1
  | .dma .dma0 r => BitVec.ofNat 16 r.index
  | .dma .dma1 r => BitVec.ofNat 16 (0xC0 + 2 * r.index)
  | .page (.page .dma0 .c0) => 0x87
  | .page (.page .dma0 .c1) => 0x83
  | .page (.page .dma0 .c2) => 0x81
  | .page (.page .dma0 .c3) => 0x82
  | .page (.page .dma1 .c0) => 0x8F
  | .page (.page .dma1 .c1) => 0x8B
  | .page (.page .dma1 .c2) => 0x89
  | .page (.page .dma1 .c3) => 0x8A
  | .page (.ext .x80) => 0x80
  | .page (.ext .x84) => 0x84
  | .page (.ext .x85) => 0x85
  | .page (.ext .x86) => 0x86
  | .page (.ext .x88) => 0x88
  | .page (.ext .x8C) => 0x8C
  | .page (.ext .x8D) => 0x8D
  | .page (.ext .x8E) => 0x8E
  | .kbcData => 0x60
  | .kbcCommand => 0x64

/-- A byte or a port is its upper bits followed by its lower bits. -/
theorem extractLsb'_append_low {h l : Nat} (v : BitVec (h + l)) : v.extractLsb' l h ++ v.extractLsb' 0 l = v := by
  rw [BitVec.extractLsb'_append_extractLsb'_eq_extractLsb' (Nat.zero_add l).symm]
  exact BitVec.extractLsb'_eq_self

theorem port_dmaReg : ∀ k : BitVec 4, (PortReg.dma .dma0 (dmaReg k)).port = (0 : BitVec 12) ++ k ∧
    (PortReg.dma .dma1 (dmaReg k)).port = 0b110#11 ++ (k ++ 0#1) := by
  decide

theorem port_pageReg : ∀ k : BitVec 4, (PortReg.page (pageReg k)).port = (8 : BitVec 12) ++ k := by
  decide

/-- An even port of 0xC0 to 0xDE is the block's bits, the register's index and a zero. -/
theorem evenPort_eq (p : PortNo) (h : p.extractLsb' 5 11 = 0b110#11 ∧ p.getLsbD 0 = false) :
    0b110#11 ++ (p.extractLsb' 1 4 ++ 0#1) = p := by
  obtain ⟨hblock, heven⟩ := h
  have hzero : p.extractLsb' 0 1 = 0#1 := by
    refine BitVec.eq_of_getLsbD_eq fun k hk => ?_
    obtain rfl : k = 0 := by omega
    simpa using heven
  rw [← hblock, ← hzero, BitVec.extractLsb'_append_extractLsb'_eq_extractLsb' (by rfl)]
  exact extractLsb'_append_low (h := 11) (l := 5) p

/-- The register that the decoder finds at a port is the register of that port. -/
theorem port_of_portReg {p : PortNo} {r : PortReg} (h : portReg p = some r) : r.port = p := by
  have block : p.extractLsb' 4 12 ++ p.extractLsb' 0 4 = p := extractLsb'_append_low (h := 12) (l := 4) p
  unfold portReg at h
  split_ifs at h with h20 h21 hA0 hA1 h60 h64 hdma0 hpage hdma1 <;> cases h
  · exact h20.symm
  · exact h21.symm
  · exact hA0.symm
  · exact hA1.symm
  · exact h60.symm
  · exact h64.symm
  · rw [(port_dmaReg _).1, ← hdma0, block]
  · rw [port_pageReg, ← hpage, block]
  · rw [(port_dmaReg _).2, evenPort_eq p hdma1]

/-- Every owned port holds a register. -/
theorem exists_portReg {p : PortNo} (h : ownedPort p = true) : ∃ r : PortReg, portReg p = some r := by
  refine Option.ne_none_iff_exists'.mp fun hn => ?_
  rw [portReg_eq_none_iff, h] at hn
  exact Bool.noConfusion hn

theorem isNone_portReg_of_owned {p : PortNo} (h : ownedPort p = true) : (portReg p).isNone = false := by
  obtain ⟨r, hr⟩ := exists_portReg h
  rw [hr, Option.isNone_some]

/-! ## Byte accesses and the registers they reach (R100, R102) -/

theorem decodeFields_outWord {c : DecodeCtx} {p : PortNo} {r : PortReg} {data : Byte} (hr : portReg p = some r) :
    decodeFields c (outWord p data) = .ok (decodeWrite c r data) := by
  simp [decodeFields, outWord, hr]

theorem decodeFields_inWord {c : DecodeCtx} {p : PortNo} {r : PortReg} (hr : portReg p = some r) :
    decodeFields c (inWord p) = .ok (decodeRead c r) := by
  simp [decodeFields, inWord, hr]

theorem decode_encode (c : DecodeCtx) (i : Instr) : decode c (encode i) = decodeFields c (encodeFields i) := by
  rw [decode, encode, unpack_pack]

/-- A write's round trip: its port, that port's register, and what the register makes of the byte. -/
theorem decode_encode_of_write {c : DecodeCtx} {i : Instr} {p : PortNo} {r : PortReg} {data : Byte}
    (he : encodeFields i = outWord p data) (hr : portReg p = some r) (hd : decodeWrite c r data = i) :
    decode c (encode i) = .ok i := by
  rw [decode_encode, he, decodeFields_outWord hr, hd]

/-- A read's round trip. -/
theorem decode_encode_of_read {c : DecodeCtx} {i : Instr} {p : PortNo} {r : PortReg}
    (he : encodeFields i = inWord p) (hr : portReg p = some r) (hd : decodeRead c r = i) :
    decode c (encode i) = .ok i := by
  rw [decode_encode, he, decodeFields_inWord hr, hd]

/-- A well-formed instruction and the fields of its packet. -/
structure Encodes (i : Instr) (f : Fields) : Prop where
  wellFormed : wellFormed i = true
  fields : encodeFields i = f

/-! ## PIC command bytes (R103, R104) -/

/-- The upper five bits of a byte, as R104's mask selects them. -/
theorem upperBits_mask (data : Byte) : data &&& 0xF8#8 = data.extractLsb' 3 5 ++ 0#3 := by
  refine BitVec.eq_of_getLsbD_eq fun k hk => ?_
  change _ = BitVec.getLsbD (w := 5 + 3) (data.extractLsb' 3 5 ++ 0#3) k
  rw [BitVec.getLsbD_append]
  interval_cases k <;> simp

theorem upperMask_eq_iff (data : Byte) (top : BitVec 5) :
    data &&& 0xF8#8 = top ++ 0#3 ↔ data.extractLsb' 3 5 = top := by
  rw [upperBits_mask]
  refine ⟨fun h => ?_, fun h => by rw [h]⟩
  simpa only [BitVec.extractLsb'_append_eq_left] using congrArg (BitVec.extractLsb' 3 5) h

/-- A reserved byte is none that a test of the OCW2 decoder names. -/
theorem isReservedOcw2_iff (data : Byte) : isReservedOcw2 data = true ↔
    data.getLsbD 4 = false ∧ data.getLsbD 3 = false ∧
    (data ≠ 0x20 ∧ data ≠ 0xA0 ∧ data ≠ 0x40 ∧ data ≠ 0x80 ∧ data ≠ 0x00) ∧
    data.extractLsb' 3 5 ≠ 0b01100 ∧ data.extractLsb' 3 5 ≠ 0b11100 ∧ data.extractLsb' 3 5 ≠ 0b11000 := by
  have h60 : data &&& 0xF8#8 = 0x60#8 ↔ _ := upperMask_eq_iff data 0b01100
  have hE0 : data &&& 0xF8#8 = 0xE0#8 ↔ _ := upperMask_eq_iff data 0b11100
  have hC0 : data &&& 0xF8#8 = 0xC0#8 ↔ _ := upperMask_eq_iff data 0b11000
  simp [isReservedOcw2, h60, hE0, hC0, and_assoc]

theorem decodePicCommand_icw1 (p : PicId) {data : Byte} (h : isIcw1 data = true) :
    decodePicCommand p data = Row.icw1 p data := if_pos h

theorem decodePicCommand_ocw3 (p : PicId) {data : Byte} (h : isOcw3 data = true) :
    decodePicCommand p data = Row.ocw3 p data := by
  obtain ⟨h4, h3⟩ := Bool.and_eq_true_iff.mp h
  rw [decodePicCommand, (Bool.not_eq_true' _).mp h4, h3]
  rfl

/-! The three commands with a level, at each of the eight levels. -/

theorem decodePicCommand_seoi (p : PicId) (level : Input) :
    decodePicCommand p (0b01100#5 ++ level) = Row.seoi p level := by
  cases p <;> (revert level; decide)

theorem decodePicCommand_seoiRotate (p : PicId) (level : Input) :
    decodePicCommand p (0b11100#5 ++ level) = Row.seoiRotate p level := by
  cases p <;> (revert level; decide)

theorem decodePicCommand_setPriority (p : PicId) (level : Input) :
    decodePicCommand p (0b11000#5 ++ level) = Row.setPriority p level := by
  cases p <;> (revert level; decide)

theorem decodePicCommand_reserved (p : PicId) {data : Byte} (h : isReservedOcw2 data = true) :
    decodePicCommand p data = Row.ocw2Reserved p data := by
  obtain ⟨h4, h3, ⟨h20, hA0, h40, h80, h00⟩, hseoi, hrotate, hset⟩ := (isReservedOcw2_iff data).mp h
  rw [decodePicCommand, h4, h3]
  simp only [decodeOcw2, Bool.false_eq_true, h20, hA0, h40, h80, h00, hseoi, hrotate, hset, if_false]

/-- The command byte of an upper field and a level. -/
theorem eq_append_level {data : Byte} {top : BitVec 5} (h : data.extractLsb' 3 5 = top) :
    top ++ data.extractLsb' 0 3 = data := by
  rw [← h]
  exact extractLsb'_append_low (h := 5) (l := 3) data

theorem encodes_level (p : PicId) (level : Input) :
    Encodes (Row.seoi p level) (outWord (PortReg.picCommand p).port ((0b01100 : BitVec 5) ++ level)) ∧
    Encodes (Row.seoiRotate p level) (outWord (PortReg.picCommand p).port ((0b11100 : BitVec 5) ++ level)) ∧
    Encodes (Row.setPriority p level) (outWord (PortReg.picCommand p).port ((0b11000 : BitVec 5) ++ level)) := by
  cases p <;> exact ⟨⟨rfl, rfl⟩, ⟨rfl, rfl⟩, ⟨rfl, rfl⟩⟩

theorem encodes_fixedOcw2 (p : PicId) :
    Encodes (Row.eoi p) (outWord (PortReg.picCommand p).port 0x20) ∧
    Encodes (Row.eoiRotate p) (outWord (PortReg.picCommand p).port 0xA0) ∧
    Encodes (Row.ocw2Nop p) (outWord (PortReg.picCommand p).port 0x40) ∧
    Encodes (Row.rotAeoiSet p) (outWord (PortReg.picCommand p).port 0x80) ∧
    Encodes (Row.rotAeoiClr p) (outWord (PortReg.picCommand p).port 0x00) := by
  cases p <;> exact ⟨⟨rfl, rfl⟩, ⟨rfl, rfl⟩, ⟨rfl, rfl⟩, ⟨rfl, rfl⟩, ⟨rfl, rfl⟩⟩

theorem encodes_decodeOcw2 (p : PicId) {data : Byte} (h4 : data.getLsbD 4 = false) (h3 : data.getLsbD 3 = false) :
    Encodes (decodeOcw2 p data) (outWord (PortReg.picCommand p).port data) := by
  obtain ⟨seoi, seoiRotate, setPriority⟩ := encodes_level p (data.extractLsb' 0 3)
  obtain ⟨eoi, eoiRotate, nop, aeoiSet, aeoiClr⟩ := encodes_fixedOcw2 p
  unfold decodeOcw2
  split_ifs with h20 hA0 hseoi hrotate hset h40 h80 h00
  · exact h20 ▸ eoi
  · exact hA0 ▸ eoiRotate
  · rwa [eq_append_level hseoi] at seoi
  · rwa [eq_append_level hrotate] at seoiRotate
  · rwa [eq_append_level hset] at setPriority
  · exact h40 ▸ nop
  · exact h80 ▸ aeoiSet
  · exact h00 ▸ aeoiClr
  · have hr : isReservedOcw2 data = true :=
      (isReservedOcw2_iff data).mpr ⟨h4, h3, ⟨h20, hA0, h40, h80, h00⟩, hseoi, hrotate, hset⟩
    cases p <;> exact ⟨hr, rfl⟩

theorem encodes_decodePicCommand (p : PicId) (data : Byte) :
    Encodes (decodePicCommand p data) (outWord (PortReg.picCommand p).port data) := by
  unfold decodePicCommand
  split_ifs with h4 h3
  · cases p <;> exact ⟨h4, rfl⟩
  · have ho : isOcw3 data = true := by rw [isOcw3, eq_false_of_ne_true h4, h3]; rfl
    cases p <;> exact ⟨ho, rfl⟩
  · exact encodes_decodeOcw2 p (eq_false_of_ne_true h4) (eq_false_of_ne_true h3)

/-! ## PIC mask bytes (R106, R112) -/

theorem decodePicMask_icw2 {c : DecodeCtx} {p : PicId} (h : c.icw p = some .icw2) (data : Byte) :
    decodePicMask c p data = Row.icw2 p data := by rw [decodePicMask, h]

theorem decodePicMask_icw3 {c : DecodeCtx} {p : PicId} (h : c.icw p = some .icw3) (data : Byte) :
    decodePicMask c p data = Row.icw3 p data := by rw [decodePicMask, h]

theorem decodePicMask_icw4 {c : DecodeCtx} {p : PicId} (h : c.icw p = some .icw4) (data : Byte) :
    decodePicMask c p data = Row.icw4 p data := by rw [decodePicMask, h]

theorem decodePicMask_ocw1 {c : DecodeCtx} {p : PicId} (h : c.icw p = none) (data : Byte) :
    decodePicMask c p data = Row.ocw1 p data := by rw [decodePicMask, h]

theorem encodes_decodePicMask (c : DecodeCtx) (p : PicId) (data : Byte) :
    Encodes (decodePicMask c p data) (outWord (PortReg.picMask p).port data) := by
  unfold decodePicMask
  split <;> cases p <;> exact ⟨rfl, rfl⟩

/-! ## Keyboard controller bytes (R110, R111) -/

theorem eq_ofNat_of_toNat_eq {w n : Nat} {v : BitVec w} (h : v.toNat = n) : v = BitVec.ofNat w n := by
  rw [← h, BitVec.ofNat_toNat, BitVec.setWidth_eq]

/-- A byte that R110 does not list is the pulse range's or unsupported. -/
theorem decodeKbcCommand_of_not_listed {data : Byte} (h : data ∉ controllerCommands) :
    decodeKbcCommand data = if 0xF0 ≤ data then .kbcCmdPulseNop data else .kbcCmdUnsupported data := by
  unfold decodeKbcCommand
  split
  case h_18 => rfl
  all_goals next hd =>
    obtain rfl := eq_ofNat_of_toNat_eq hd
    exact absurd (by decide) h

theorem isPulse_iff (data : Byte) : isPulse data = true ↔ 0xF0 ≤ data ∧ data ≠ 0xFE := by
  simp [isPulse]

/-- No listed byte is a pulse: R110 leaves the one in their range, 0xFE, out. -/
theorem not_listed_of_isPulse {data : Byte} (h : isPulse data = true) : data ∉ controllerCommands := by
  have listed : ∀ b ∈ controllerCommands, isPulse b = false := by decide
  exact fun hm => Bool.noConfusion ((listed data hm).symm.trans h)

theorem decodeKbcCommand_pulse {data : Byte} (h : isPulse data = true) :
    decodeKbcCommand data = .kbcCmdPulseNop data := by
  rw [decodeKbcCommand_of_not_listed (not_listed_of_isPulse h), if_pos ((isPulse_iff data).mp h).1]

/-- An unsupported byte is below the pulse range: 0xFE is listed. -/
theorem unsupported_iff (data : Byte) :
    wellFormed (.kbcCmdUnsupported data) = true ↔ ¬0xF0 ≤ data ∧ data ∉ controllerCommands := by
  have hwf : wellFormed (.kbcCmdUnsupported data) = true ↔ ¬isPulse data = true ∧ data ∉ controllerCommands := by
    simp [wellFormed]
  rw [hwf, isPulse_iff]
  refine and_congr_left fun hlisted => not_congr (and_iff_left ?_)
  rintro rfl
  exact hlisted (by decide)

theorem decodeKbcCommand_unsupported {data : Byte} (h : wellFormed (.kbcCmdUnsupported data) = true) :
    decodeKbcCommand data = .kbcCmdUnsupported data := by
  obtain ⟨hlow, hlisted⟩ := (unsupported_iff data).mp h
  rw [decodeKbcCommand_of_not_listed hlisted, if_neg hlow]

theorem encodes_decodeKbcCommand (data : Byte) : Encodes (decodeKbcCommand data) (outWord 0x64 data) := by
  by_cases hm : data ∈ controllerCommands
  · have listed : ∀ b ∈ controllerCommands,
        wellFormed (decodeKbcCommand b) = true ∧ encodeFields (decodeKbcCommand b) = outWord 0x64 b := by decide
    exact ⟨(listed data hm).1, (listed data hm).2⟩
  · rw [decodeKbcCommand_of_not_listed hm]
    split_ifs with hhigh
    · have hp : isPulse data = true := (isPulse_iff data).mpr ⟨hhigh, by rintro rfl; exact hm (by decide)⟩
      exact ⟨hp, rfl⟩
    · exact ⟨(unsupported_iff data).mpr ⟨hhigh, hm⟩, rfl⟩

/-- The commands whose argument is awaited are five; any other byte is unexpected (R111). -/
theorem decodeKbcArgument_of_not_listed {lastComm : Byte} (h : lastComm ∉ argumentCommands) (data : Byte) :
    decodeKbcArgument lastComm data = .kbcArgUnexpected data := by
  unfold decodeKbcArgument
  split
  case h_6 => rfl
  all_goals next hl =>
    obtain rfl := eq_ofNat_of_toNat_eq hl
    exact absurd (by decide) h

theorem decodeKbdCommand_of_not_listed {data : Byte} (h : data ∉ keyboardCommands) :
    decodeKbdCommand data = .kbdCmdUnrecognized data := by
  unfold decodeKbdCommand
  split
  case h_11 => rfl
  all_goals next hd =>
    obtain rfl := eq_ofNat_of_toNat_eq hd
    exact absurd (by decide) h

theorem unrecognized_iff (data : Byte) :
    wellFormed (.kbdCmdUnrecognized data) = true ↔ data ∉ keyboardCommands := by
  simp [wellFormed]

theorem encodes_decodeKbdCommand (data : Byte) : Encodes (decodeKbdCommand data) (outWord 0x60 data) := by
  by_cases hm : data ∈ keyboardCommands
  · have listed : ∀ b ∈ keyboardCommands,
        wellFormed (decodeKbdCommand b) = true ∧ encodeFields (decodeKbdCommand b) = outWord 0x60 b := by decide
    exact ⟨(listed data hm).1, (listed data hm).2⟩
  · rw [decodeKbdCommand_of_not_listed hm]
    exact ⟨(unrecognized_iff data).mpr hm, rfl⟩

theorem encodes_decodeKbcData (c : DecodeCtx) (data : Byte) : Encodes (decodeKbcData c data) (outWord 0x60 data) := by
  unfold decodeKbcData
  split_ifs
  · unfold decodeKbcArgument
    split <;> exact ⟨rfl, rfl⟩
  · exact ⟨rfl, rfl⟩
  · exact ⟨rfl, rfl⟩
  · exact ⟨rfl, rfl⟩
  · exact encodes_decodeKbdCommand data

/-! ## Every byte access encodes back -/

theorem encodes_decodeDmaWrite (d : DmaId) (r : DmaReg) (data : Byte) :
    Encodes (decodeDmaWrite d r data) (outWord (PortReg.dma d r).port data) := by
  cases r with
  | addr j | count j => cases d <;> cases j <;> exact ⟨rfl, rfl⟩
  | _ => cases d <;> exact ⟨rfl, rfl⟩

theorem encodes_decodeDmaRead (d : DmaId) (r : DmaReg) :
    Encodes (decodeDmaRead d r) (inWord (PortReg.dma d r).port) := by
  cases r with
  | addr j | count j => cases d <;> cases j <;> exact ⟨rfl, rfl⟩
  | _ => cases d <;> exact ⟨rfl, rfl⟩

theorem encodes_pageRows (r : PageReg) (c : DecodeCtx) (data : Byte) :
    Encodes (decodeWrite c (.page r) data) (outWord (PortReg.page r).port data) ∧
    Encodes (decodeRead c (.page r)) (inWord (PortReg.page r).port) := by
  cases r with
  | page d j => cases d <;> cases j <;> exact ⟨⟨rfl, rfl⟩, ⟨rfl, rfl⟩⟩
  | ext x => cases x <;> exact ⟨⟨rfl, rfl⟩, ⟨rfl, rfl⟩⟩

theorem encodes_decodeWrite (c : DecodeCtx) (r : PortReg) (data : Byte) :
    Encodes (decodeWrite c r data) (outWord r.port data) := by
  cases r with
  | picCommand p => exact encodes_decodePicCommand p data
  | picMask p => exact encodes_decodePicMask c p data
  | dma d r => exact encodes_decodeDmaWrite d r data
  | page r => exact (encodes_pageRows r c data).1
  | kbcData => exact encodes_decodeKbcData c data
  | kbcCommand => exact encodes_decodeKbcCommand data

theorem encodes_decodeRead (c : DecodeCtx) (r : PortReg) : Encodes (decodeRead c r) (inWord r.port) := by
  cases r with
  | picCommand p | picMask p =>
    rw [decodeRead]
    split_ifs <;> cases p <;> exact ⟨rfl, rfl⟩
  | dma d r => exact encodes_decodeDmaRead d r
  | page r => exact (encodes_pageRows r c 0).2
  | kbcData =>
    rw [decodeRead]
    split_ifs <;> exact ⟨rfl, rfl⟩
  | kbcCommand => exact ⟨rfl, rfl⟩

/-- A byte access decodes to an operation whose packet is the access. -/
theorem exists_decodeFields_byte (c : DecodeCtx) {port : PortNo} (h : ownedPort port = true) (write : Bool)
    (data : Byte) : ∃ i, decodeFields c ⟨0, 0, write, port, data, 0, 0⟩ = .ok i ∧
      Encodes i ⟨0, 0, write, port, if write then data else 0, 0, 0⟩ := by
  obtain ⟨r, hr⟩ := exists_portReg h
  obtain rfl := port_of_portReg hr
  cases write with
  | true => exact ⟨_, decodeFields_outWord hr, encodes_decodeWrite c r data⟩
  | false => exact ⟨decodeRead c r, by simp [decodeFields, hr], encodes_decodeRead c r⟩

/-- Settles O3: the row that the port's register selects encodes back to the access. -/
theorem everyOwnedByteAccessDecodes : Obligations.EveryOwnedByteAccessDecodes := by
  intro c port write data h
  obtain ⟨i, hd, hi⟩ := exists_decodeFields_byte c h write data
  have hdecode : decode c (pack ⟨0, 0, write, port, data, 0, 0⟩) = .ok i := by rw [decode, unpack_pack, hd]
  exact ⟨i, hdecode, hi.wellFormed, selectedIn_of_decode hdecode, congrArg pack hi.fields⟩

/-! ## Wide accesses (20_memory.md R73) -/

theorem decodeFields_inw (c : DecodeCtx) {port : PortNo} (h : ownedPort port = true) :
    decodeFields c (wideWord 1 false port 0) = .ok (.inw port) := by
  simp [decodeFields, decodeWide, wideWord, isNone_portReg_of_owned h]

theorem decodeFields_ind (c : DecodeCtx) {port : PortNo} (h : ownedPort port = true) :
    decodeFields c (wideWord 2 false port 0) = .ok (.ind port) := by
  simp [decodeFields, decodeWide, wideWord, isNone_portReg_of_owned h]

theorem decodeFields_outd (c : DecodeCtx) {port : PortNo} (h : ownedPort port = true) (v : BitVec 32) :
    decodeFields c (wideWord 2 true port v) = .ok (.outd port v) := by
  simp [decodeFields, decodeWide, wideWord, isNone_portReg_of_owned h]

/-- An argument widened to an operand word is read back whole. -/
theorem extractLsb'_setWidth_self {w v : Nat} (h : w ≤ v) (x : BitVec w) : (x.setWidth v).extractLsb' 0 w = x := by
  rw [← BitVec.setWidth_eq_extractLsb' h, BitVec.setWidth_setWidth_of_le x h, BitVec.setWidth_eq]

theorem decodeFields_outw (c : DecodeCtx) {port : PortNo} (h : ownedPort port = true) (v : BitVec 16) :
    decodeFields c (wideWord 1 true port (v.setWidth 32)) = .ok (.outw port v) := by
  have high : (v.setWidth 32).extractLsb' 16 16 = 0#16 := by
    refine BitVec.eq_of_getLsbD_eq fun k hk => ?_
    simp
  simp [decodeFields, decodeWide, wideWord, isNone_portReg_of_owned h, high, extractLsb'_setWidth_self]

/-! ## Signals (R101, R117) -/

theorem decodeFields_sigWord (c : DecodeCtx) (selector : Byte) (argA argB : BitVec 32) :
    decodeFields c (sigWord selector argA argB) = decodeSignal (sigWord selector argA argB) := rfl

/-- What the decoder makes of a signal with arguments, selector by selector. -/
theorem decodeSignal_setIrq (a b : BitVec 32) : decodeSignal (sigWord 0 a b) =
    if b ≠ 0 then .error .unusedOperandBits
    else if 16 ≤ a then .error .argumentOutOfRange
    else .ok (.setIrq (a.extractLsb' 0 4)) := rfl

theorem decodeSignal_clearIrq (a b : BitVec 32) : decodeSignal (sigWord 1 a b) =
    if b ≠ 0 then .error .unusedOperandBits
    else if 16 ≤ a then .error .argumentOutOfRange
    else .ok (.clearIrq (a.extractLsb' 0 4)) := rfl

theorem decodeSignal_requestIrqNumber (a b : BitVec 32) : decodeSignal (sigWord 2 a b) =
    if b ≠ 0 then .error .unusedOperandBits else .ok (.requestIrqNumber (identityOf a)) := rfl

theorem decodeSignal_registerChannel (a b : BitVec 32) : decodeSignal (sigWord 4 a b) =
    if b.extractLsb' 2 30 ≠ 0 then .error .unusedOperandBits
    else .ok (.registerChannel a ⟨!b.getLsbD 0, !b.getLsbD 1⟩) := rfl

theorem decodeSignal_setDmaRequest (a b : BitVec 32) : decodeSignal (sigWord 5 a b) =
    if b.extractLsb' 1 31 ≠ 0 then .error .unusedOperandBits
    else if 8 ≤ a then .error .argumentOutOfRange
    else .ok (.setDmaRequest (a.extractLsb' 0 3) (b.getLsbD 0)) := rfl

theorem decodeSignal_keyEvent (a b : BitVec 32) : decodeSignal (sigWord 8 a b) =
    if b.extractLsb' 3 29 ≠ 0 then .error .unusedOperandBits
    else .ok (.keyEvent a (if b.getLsbD 0 then .release else .press) (keySideOf (b.extractLsb' 1 2))) := rfl

theorem identityOf_identityCode {identity : Identity} (h : knownOrOther identity = true) :
    identityOf (identityCode identity) = identity := by
  cases identity with
  | other code =>
    have hcode : 10 ≤ code.toNat := by simpa [knownOrOther, BitVec.le_def] using h
    rw [identityCode, identityOf]
    split
    case h_11 => rfl
    all_goals omega
  | _ => rfl

/-- The two callbacks' bits, and none above them. -/
theorem handlerCode_bits (h : Handler) : (handlerCode h).extractLsb' 2 30 = 0 ∧
    (handlerCode h).getLsbD 0 = !h.devToMem ∧ (handlerCode h).getLsbD 1 = !h.memToDev := by
  obtain ⟨devToMem, memToDev⟩ := h
  cases devToMem <;> cases memToDev <;> exact ⟨rfl, rfl, rfl⟩

theorem bit32_bits (b : Bool) : (bit32 b).extractLsb' 1 31 = 0 ∧ (bit32 b).getLsbD 0 = b := by
  cases b <;> exact ⟨rfl, rfl⟩

/-- The type's bit and the side's field, and no bit above them. -/
theorem keyEventCode_bits (type : KeyType) (side : KeySide) :
    (keyEventCode type side).extractLsb' 3 29 = 0 ∧
    (if (keyEventCode type side).getLsbD 0 then KeyType.release else .press) = type ∧
    keySideOf ((keyEventCode type side).extractLsb' 1 2) = side := by
  cases type <;> cases side <;> exact ⟨rfl, rfl, rfl⟩

/-- The number of an IRQ line, as an operand word, is in range (R101). -/
theorem irqLine_in_range (n : BitVec 4) : ¬16 ≤ n.setWidth 32 := by bv_omega

theorem decode_encode_setIrq (c : DecodeCtx) (n : BitVec 4) : decode c (encode (.setIrq n)) = .ok (.setIrq n) := by
  rw [decode_encode, encodeFields, decodeFields_sigWord, decodeSignal_setIrq, if_neg (not_not_intro rfl),
    if_neg (irqLine_in_range n), extractLsb'_setWidth_self (by decide)]

theorem decode_encode_clearIrq (c : DecodeCtx) (n : BitVec 4) :
    decode c (encode (.clearIrq n)) = .ok (.clearIrq n) := by
  rw [decode_encode, encodeFields, decodeFields_sigWord, decodeSignal_clearIrq, if_neg (not_not_intro rfl),
    if_neg (irqLine_in_range n), extractLsb'_setWidth_self (by decide)]

theorem decode_encode_requestIrqNumber (c : DecodeCtx) {identity : Identity} (h : knownOrOther identity = true) :
    decode c (encode (.requestIrqNumber identity)) = .ok (.requestIrqNumber identity) := by
  rw [decode_encode, encodeFields, decodeFields_sigWord, decodeSignal_requestIrqNumber, if_neg (not_not_intro rfl),
    identityOf_identityCode h]

theorem decode_encode_registerChannel (c : DecodeCtx) (g : BitVec 32) (handler : Handler) :
    decode c (encode (.registerChannel g handler)) = .ok (.registerChannel g handler) := by
  obtain ⟨hhigh, hdev, hmem⟩ := handlerCode_bits handler
  rw [decode_encode, encodeFields, decodeFields_sigWord, decodeSignal_registerChannel, if_neg (not_not_intro hhigh),
    hdev, hmem, Bool.not_not, Bool.not_not]

theorem decode_encode_setDmaRequest (c : DecodeCtx) (g : BitVec 3) (b : Bool) :
    decode c (encode (.setDmaRequest g b)) = .ok (.setDmaRequest g b) := by
  obtain ⟨hhigh, hbit⟩ := bit32_bits b
  have range : ¬8 ≤ g.setWidth 32 := by bv_omega
  rw [decode_encode, encodeFields, decodeFields_sigWord, decodeSignal_setDmaRequest, if_neg (not_not_intro hhigh),
    if_neg range, extractLsb'_setWidth_self (by decide), hbit]

theorem decode_encode_keyEvent (c : DecodeCtx) (key : BitVec 32) (type : KeyType) (side : KeySide) :
    decode c (encode (.keyEvent key type side)) = .ok (.keyEvent key type side) := by
  obtain ⟨hhigh, htype, hside⟩ := keyEventCode_bits type side
  rw [decode_encode, encodeFields, decodeFields_sigWord, decodeSignal_keyEvent, if_neg (not_not_intro hhigh), htype,
    hside]

/-! ## The rows that the context selects (R112) -/

theorem decodeKbcData_of_expecting {c : DecodeCtx} (h : c.expecting = true) (data : Byte) :
    decodeKbcData c data = decodeKbcArgument c.lastComm data := if_pos h

/-- The argument of the command that awaits it. -/
theorem decodeKbcData_of_lastComm {c : DecodeCtx} {comm : Byte} (h : (c.expecting && c.lastComm == comm) = true)
    (data : Byte) : decodeKbcData c data = decodeKbcArgument comm data := by
  obtain ⟨he, hl⟩ := Bool.and_eq_true_iff.mp h
  rw [decodeKbcData_of_expecting he, eq_of_beq hl]

theorem decodeKbcData_unexpected {c : DecodeCtx}
    (h : (c.expecting && !argumentCommands.contains c.lastComm) = true) (data : Byte) :
    decodeKbcData c data = .kbcArgUnexpected data := by
  obtain ⟨he, hl⟩ := Bool.and_eq_true_iff.mp h
  rw [decodeKbcData_of_expecting he, decodeKbcArgument_of_not_listed (by simpa using hl)]

theorem decodeKbcData_typematic {c : DecodeCtx} (h : (!c.expecting && c.typematic) = true) (data : Byte) :
    decodeKbcData c data = .kbdArgTypematic data := by
  simp_all [decodeKbcData]

theorem decodeKbcData_led {c : DecodeCtx} (h : (!c.expecting && !c.typematic && c.led) = true) (data : Byte) :
    decodeKbcData c data = .kbdArgLed data := by
  simp_all [decodeKbcData]

theorem decodeKbcData_scancodeSet {c : DecodeCtx}
    (h : (!c.expecting && !c.typematic && !c.led && c.scancodeSet) = true) (data : Byte) :
    decodeKbcData c data = .kbdArgScancodeSet data := by
  simp_all [decodeKbcData]

theorem decodeKbcData_of_deviceCommand {c : DecodeCtx} (h : c.deviceCommand = true) (data : Byte) :
    decodeKbcData c data = decodeKbdCommand data := by
  simp_all [decodeKbcData, DecodeCtx.deviceCommand]

/-- A command of the keyboard device, in every context without a sub-state. -/
theorem decode_encode_of_deviceCommand {c : DecodeCtx} {i : Instr} {data : Byte} (h : c.deviceCommand = true)
    (he : encodeFields i = outWord 0x60 data) (hd : decodeKbdCommand data = i) : decode c (encode i) = .ok i :=
  decode_encode_of_write (r := .kbcData) he rfl ((decodeKbcData_of_deviceCommand h data).trans hd)

/-! ## The round trip -/

/-- Settles O2: the rows with an access of their own at once; the others by the byte or the state that selects them. -/
theorem encodeThenDecodeGivesTheOperation : Obligations.EncodeThenDecodeGivesTheOperation := by
  intro c i hw hs
  cases i with
  -- the PIC pair's command ports
  | pic0Icw1 data | pic1Icw1 data => exact decode_encode_of_write rfl rfl (decodePicCommand_icw1 _ hw)
  | pic0Ocw3 data | pic1Ocw3 data => exact decode_encode_of_write rfl rfl (decodePicCommand_ocw3 _ hw)
  | pic0Seoi level | pic1Seoi level => exact decode_encode_of_write rfl rfl (decodePicCommand_seoi _ level)
  | pic0SeoiRotate level | pic1SeoiRotate level =>
    exact decode_encode_of_write rfl rfl (decodePicCommand_seoiRotate _ level)
  | pic0SetPriority level | pic1SetPriority level =>
    exact decode_encode_of_write rfl rfl (decodePicCommand_setPriority _ level)
  | pic0Ocw2Reserved data | pic1Ocw2Reserved data =>
    exact decode_encode_of_write rfl rfl (decodePicCommand_reserved _ hw)
  -- the PIC pair's mask ports and reads
  | pic0Icw2 data | pic1Icw2 data =>
    exact decode_encode_of_write rfl rfl (decodePicMask_icw2 (eq_of_beq hs) data)
  | pic0Icw3 data | pic1Icw3 data =>
    exact decode_encode_of_write rfl rfl (decodePicMask_icw3 (eq_of_beq hs) data)
  | pic0Icw4 data | pic1Icw4 data =>
    exact decode_encode_of_write rfl rfl (decodePicMask_icw4 (eq_of_beq hs) data)
  | pic0Ocw1 data | pic1Ocw1 data =>
    exact decode_encode_of_write rfl rfl (decodePicMask_ocw1 (eq_of_beq hs) data)
  | pic0PollCmd | pic0PollMask | pic1PollCmd | pic1PollMask => exact decode_encode_of_read rfl rfl (if_pos hs)
  | pic0ReadCmd | pic0ReadMask | pic1ReadCmd | pic1ReadMask =>
    exact decode_encode_of_read rfl rfl (if_neg (ne_true_of_eq_false ((Bool.not_eq_true' _).mp hs)))
  -- the keyboard controller
  | kbcCmdPulseNop data => exact decode_encode_of_write rfl rfl (decodeKbcCommand_pulse hw)
  | kbcCmdUnsupported data => exact decode_encode_of_write rfl rfl (decodeKbcCommand_unsupported hw)
  | kbcDataRAux => exact decode_encode_of_read rfl rfl (if_pos hs)
  | kbcDataRKbd | kbcDataREmpty => exact decode_encode_of_read rfl rfl (by simp_all [decodeRead, selectedIn])
  | kbcArgConfig data | kbcArgOutport data | kbcArgKbdOutbuf data | kbcArgAuxOutbuf data | kbcArgToMouse data =>
    exact decode_encode_of_write rfl rfl (decodeKbcData_of_lastComm hs data)
  | kbcArgUnexpected data => exact decode_encode_of_write rfl rfl (decodeKbcData_unexpected hs data)
  -- the keyboard device
  | kbdArgTypematic data => exact decode_encode_of_write rfl rfl (decodeKbcData_typematic hs data)
  | kbdArgLed data => exact decode_encode_of_write rfl rfl (decodeKbcData_led hs data)
  | kbdArgScancodeSet data => exact decode_encode_of_write rfl rfl (decodeKbcData_scancodeSet hs data)
  | kbdCmdUnrecognized data =>
    exact decode_encode_of_deviceCommand hs rfl (decodeKbdCommand_of_not_listed ((unrecognized_iff data).mp hw))
  | kbdCmdSetLeds | kbdCmdEcho | kbdCmdSelectScancodeSet | kbdCmdIdentify | kbdCmdSetTypematic
  | kbdCmdEnableScanning | kbdCmdResetDisable | kbdCmdResetEnable | kbdCmdResend | kbdCmdResetBat =>
    exact decode_encode_of_deviceCommand hs rfl rfl
  -- wide accesses
  | inw port => rw [decode_encode]; exact decodeFields_inw c hw
  | outw port v => rw [decode_encode]; exact decodeFields_outw c hw v
  | ind port => rw [decode_encode]; exact decodeFields_ind c hw
  | outd port v => rw [decode_encode]; exact decodeFields_outd c hw v
  -- signals
  | setIrq n => exact decode_encode_setIrq c n
  | clearIrq n => exact decode_encode_clearIrq c n
  | requestIrqNumber identity => exact decode_encode_requestIrqNumber c hw
  | registerChannel g handler => exact decode_encode_registerChannel c g handler
  | setDmaRequest g b => exact decode_encode_setDmaRequest c g b
  | keyEvent key type side => exact decode_encode_keyEvent c key type side
  | interruptAcknowledge | acknowledgeBusHold | update | reset => rw [decode_encode]; rfl
  -- reads with a port of their own
  | dma0Addr0R | dma0Addr1R | dma0Addr2R | dma0Addr3R | dma0Count0R | dma0Count1R | dma0Count2R | dma0Count3R
  | dma1Addr0R | dma1Addr1R | dma1Addr2R | dma1Addr3R | dma1Count0R | dma1Count1R | dma1Count2R | dma1Count3R
  | dma0StatusR | dma0WriteOnlyR9 | dma0WriteOnlyRA | dma0WriteOnlyRB | dma0WriteOnlyRC | dma0WriteOnlyRD
  | dma0WriteOnlyRE | dma0WriteOnlyRF | dma1StatusR | dma1WriteOnlyR9 | dma1WriteOnlyRA | dma1WriteOnlyRB
  | dma1WriteOnlyRC | dma1WriteOnlyRD | dma1WriteOnlyRE | dma1WriteOnlyRF
  | dmaPageG0R | dmaPageG1R | dmaPageG2R | dmaPageG3R | dmaPageG4R | dmaPageG5R | dmaPageG6R | dmaPageG7R
  | dmaExtpage80R | dmaExtpage84R | dmaExtpage85R | dmaExtpage86R | dmaExtpage88R | dmaExtpage8CR
  | dmaExtpage8DR | dmaExtpage8ER | kbcStatusR => exact decode_encode_of_read rfl rfl rfl
  -- writes with a port, or a port and a byte, of their own
  | _ => exact decode_encode_of_write rfl rfl rfl

/-! ## Table words (R117) -/

/-- The word of a row that is selected at reset stands for the row's operation. -/
theorem decodeTableWord_of_encode {nbits w : Nat} {i : Instr} (hp : tablePacket nbits w = encode i)
    (hw : wellFormed i = true) (hs : selectedIn resetCtx i = true) : decodeTableWord nbits w = some i := by
  rw [decodeTableWord, hp, encodeThenDecodeGivesTheOperation resetCtx i hw hs]

/-- Settles O1: each word is its operation's packet. -/
theorem specWordsDecode : Obligations.SpecWordsDecode := by
  refine ⟨?icw1, ?eoi, ?seoiRotate, ?dmaAddress, ?dmaStatus, ?page, ?selfTest, ?leds, ?wordRead, ?busGrant⟩
  all_goals exact decodeTableWord_of_encode rfl rfl rfl

end Sys2Proof

/-! The PIC pair's operations (spec/40_pic.md): which input a service latches and which in-service bit `clear_highest` clears,
both as the least of the priority order; the request pins; the four cases of an acknowledge; and the next state of each
command word and read. -/

namespace Sys2Proof.Machine

/-! ## Scans of a list in increasing order -/

/-- A scan up to the first element that fails `P` passes the elements below every one that fails it. -/
theorem mem_takeWhile_iff_of_sorted {α : Type} (f : α → Nat) (P : α → Bool) {l : List α}
    (hl : l.Pairwise fun a b => f a < f b) {a : α} (ha : a ∈ l) :
    a ∈ l.takeWhile P ↔ ∀ b ∈ l, P b = false → f a < f b := by
  induction l with
  | nil => simp at ha
  | cons x xs ih =>
    obtain ⟨hx, hxs⟩ := List.pairwise_cons.mp hl
    cases hP : P x with
    | false =>
      -- the scan stops at once, and no element is below the least
      have hle : f x ≤ f a := by
        obtain rfl | ha := List.mem_cons.mp ha
        · exact le_rfl
        · exact (hx a ha).le
      simp [hP, hle.not_gt]
    | true =>
      obtain rfl | ha := List.mem_cons.mp ha
      · simpa [hP] using fun b hb _ => hx b hb
      · have hne : a ≠ x := fun h => (hx a ha).ne (h ▸ rfl)
        simp [hP, hne, ih hxs ha]

/-- The first element that meets `P` is the least that does. -/
theorem find?_eq_some_iff_of_sorted {α : Type} (f : α → Nat) (P : α → Bool) {l : List α}
    (hl : l.Pairwise fun a b => f a < f b) {a : α} :
    l.find? P = some a ↔ a ∈ l ∧ P a = true ∧ ∀ b ∈ l, P b = true → f a ≤ f b := by
  induction l with
  | nil => simp
  | cons x xs ih =>
    obtain ⟨hx, hxs⟩ := List.pairwise_cons.mp hl
    cases hP : P x with
    | false =>
      have hne : P a = true → a ≠ x := fun h e => by simp [e, hP] at h
      rw [List.find?_cons_of_neg (by simp [hP]), ih hxs]
      simp only [List.mem_cons, forall_eq_or_imp, hP]
      grind
    | true =>
      rw [List.find?_cons_of_pos hP]
      constructor
      · rintro ⟨rfl⟩
        exact ⟨List.mem_cons_self, hP, fun b hb _ => (List.mem_cons.mp hb).elim (· ▸ le_rfl) fun h => (hx b h).le⟩
      · rintro ⟨ha, -, hmin⟩
        obtain rfl | ha := List.mem_cons.mp ha
        · rfl
        · exact absurd (hmin x List.mem_cons_self hP) (hx a ha).not_ge

/-! ## The input that a service latches (R140) -/

@[simp] theorem bitAt_zero (i : Input) : bitAt 0#8 i = false := BitVec.getLsbD_zero

/-- The scan of R140 takes in the inputs that nothing in service is level with or ahead of, and all under special mask. -/
theorem Pic.mem_candidates_iff (p : Pic) (i : Input) :
    i ∈ p.candidates ↔ p.specialMask = true ∨ ∀ k, bitAt p.isr k = true → p.position i < p.position k := by
  unfold Pic.candidates
  split
  next h =>
    obtain hs | hz : p.specialMask = true ∨ p.isr = 0 := by simpa using h
    · simp [mem_circle, hs]
    · simp [mem_circle, hz]
  next h =>
    obtain ⟨hs, -⟩ : p.specialMask = false ∧ p.isr ≠ 0 := by simpa using h
    rw [mem_takeWhile_iff_of_sorted p.position _ (circle_sorted p) (mem_circle _ i)]
    simp [mem_circle, hs]

theorem Pic.candidates_sorted (p : Pic) : p.candidates.Pairwise fun i k => p.position i < p.position k := by
  unfold Pic.candidates
  split
  · exact circle_sorted p
  · exact (circle_sorted p).sublist (List.takeWhile_sublist _)

/-- What R140 looks for among its candidates: special mask skips no in-service input (D32). -/
theorem Pic.latch_eq (p : Pic) :
    p.latch = if p.intRequestPin then none else p.candidates.find? fun i => bitAt p.irr i && !bitAt p.imr i := by
  simp [Pic.latch, Config.picSmmSkipInservice]

theorem Pic.dispatchable_iff (p : Pic) (i : Input) :
    p.Dispatchable i ↔ i ∈ p.candidates ∧ (bitAt p.irr i && !bitAt p.imr i) = true := by
  simp only [Pic.Dispatchable, p.mem_candidates_iff, Bool.and_eq_true, Bool.not_eq_true']
  tauto

theorem Pic.latch_eq_some_iff (p : Pic) (i : Input) :
    p.latch = some i ↔ p.intRequestPin = false ∧ p.Dispatchable i ∧
      ∀ k, p.Dispatchable k → p.position i ≤ p.position k := by
  rw [p.latch_eq]
  cases p.intRequestPin with
  | true => simp
  | false =>
    simp only [Bool.false_eq_true, if_false, find?_eq_some_iff_of_sorted p.position _ p.candidates_sorted,
      p.dispatchable_iff, and_imp, and_assoc, true_and]

theorem Pic.latch_eq_none_iff (p : Pic) : p.latch = none ↔ p.intRequestPin = true ∨ ∀ i, ¬p.Dispatchable i := by
  rw [p.latch_eq]
  cases p.intRequestPin with
  | true => simp
  | false => simp only [Bool.false_eq_true, if_false, List.find?_eq_none, p.dispatchable_iff, not_and, false_or]

/-! ## Service (R140, R141) -/

/-- The slave's signal is `setIRQ(2)`. -/
theorem setIrq_two (s : State) : setIrq 2 s = setIrqMaster 2 s := rfl

theorem service_of_latch_eq_none {c : PicId} {s : State} (h : (s.pic c).latch = none) : service c s = s := by
  cases c with
  | master => rw [service, serviceMaster, show s.master.latch = none from h]
  | slave => rw [service, serviceSlave, show s.slave.latch = none from h]

theorem serviceMaster_of_latch_eq_some {s : State} {i : Input} (h : s.master.latch = some i) :
    serviceMaster s = { s with master := s.master.latched i, intr := true } := by
  rw [serviceMaster, h]

theorem serviceSlave_of_latch_eq_some {s : State} {i : Input} (h : s.slave.latch = some i) :
    serviceSlave s = setIrqMaster 2 { s with slave := s.slave.latched i } := by
  rw [serviceSlave, h]

/-- Settles O15: what `service` does is decided by `Pic.latch`, which is the first dispatchable input. -/
theorem serviceLatchesTheHighestPriority : Obligations.ServiceLatchesTheHighestPriority := by
  intro c s
  refine ⟨fun hpin => ?pending, fun hnone => ?nothing, fun i hpin hi hmin => ?latches⟩
  case pending => exact service_of_latch_eq_none ((Pic.latch_eq_none_iff _).mpr (.inl hpin))
  case nothing => exact service_of_latch_eq_none ((Pic.latch_eq_none_iff _).mpr (.inr hnone))
  case latches =>
    have hlatch : (s.pic c).latch = some i := (Pic.latch_eq_some_iff _ i).mpr ⟨hpin, hi, hmin⟩
    cases c with
    | master => exact serviceMaster_of_latch_eq_some hlatch
    | slave => exact (serviceSlave_of_latch_eq_some hlatch).trans (setIrq_two _).symm

/-! ## The highest input in service (R142) -/

theorem Pic.clearHighest_of_isr_eq_zero {p : Pic} (h : p.isr = 0) : p.clearHighest = p := by
  have hfind : (circle p.highest).find? (bitAt p.isr) = none := by simp [h]
  rw [Pic.clearHighest, hfind]

theorem Pic.clearHighest_of_least {p : Pic} {i : Input} (hi : bitAt p.isr i = true)
    (hmin : ∀ k, bitAt p.isr k = true → p.position i ≤ p.position k) :
    p.clearHighest = { p with isr := setBitAt p.isr i false } := by
  have hfind : (circle p.highest).find? (bitAt p.isr) = some i :=
    (find?_eq_some_iff_of_sorted p.position _ (circle_sorted p)).mpr ⟨mem_circle _ i, hi, fun k _ => hmin k⟩
  rw [Pic.clearHighest, hfind]

/-- Settles O16: the first in-service input of the circle is the one of least position. -/
theorem clearHighestClearsTheHighestInService : Obligations.ClearHighestClearsTheHighestInService := by
  intro p
  refine ⟨Pic.clearHighest_of_isr_eq_zero, fun i hi hmin => ?_⟩
  rw [Pic.clearHighest_of_least hi hmin, setBitAt_false]

/-! ## The request pins (R143, R144) -/

/-- The number of the IRQ line on input `i` of a controller. -/
def irqNumber (c : PicId) (i : Input) : BitVec 4 := (match c with | .master => 0#1 | .slave => 1#1) ++ i

@[simp] theorem irqController_irqNumber (c : PicId) (i : Input) : irqController (irqNumber c i) = c := by
  revert i; cases c <;> decide

@[simp] theorem irqInput_irqNumber (c : PicId) (i : Input) : irqInput (irqNumber c i) = i := by
  revert i; cases c <;> decide

theorem exec_setIrq (n : BitVec 4) (s : State) : exec (.setIrq n) s = finish (setIrq n s) := rfl

theorem exec_clearIrq (n : BitVec 4) (s : State) : exec (.clearIrq n) s = finish (clearIrq n s) := rfl

theorem setIrqMaster_of_low {i : Input} {s : State} (h : bitAt s.master.irqPin i = false) :
    setIrqMaster i s = serviceMaster { s with master := s.master.raised i } := by
  rw [setIrqMaster, h, if_neg Bool.false_ne_true]

theorem setIrq_of_high {c : PicId} {i : Input} {s : State} (h : bitAt (s.pic c).irqPin i = true) :
    setIrq (irqNumber c i) s = s := by
  cases c with
  | master =>
    replace h : bitAt s.master.irqPin i = true := h
    simp [setIrq, setIrqMaster, h]
  | slave =>
    replace h : bitAt s.slave.irqPin i = true := h
    simp [setIrq, setIrqSlave, h]

theorem setIrq_of_low {c : PicId} {i : Input} {s : State} (h : bitAt (s.pic c).irqPin i = false) :
    setIrq (irqNumber c i) s = service c (s.setPic c ((s.pic c).raised i)) := by
  cases c with
  | master =>
    replace h : bitAt s.master.irqPin i = false := h
    simp [setIrq, setIrqMaster, h, service, State.setPic, State.pic]
  | slave =>
    replace h : bitAt s.slave.irqPin i = false := h
    simp [setIrq, setIrqSlave, h, service, State.setPic, State.pic]

theorem clearIrq_of_low {c : PicId} {i : Input} {s : State} (h : bitAt (s.pic c).irqPin i = false) :
    clearIrq (irqNumber c i) s = s := by
  simp [clearIrq, h]

theorem clearIrq_of_high {c : PicId} {i : Input} {s : State} (h : bitAt (s.pic c).irqPin i = true) :
    clearIrq (irqNumber c i) s = s.setPic c { s.pic c with
      irqPin := setBitAt (s.pic c).irqPin i false, irr := setBitAt (s.pic c).irr i false } := by
  simp [clearIrq, h]

/-- Settles O17: each call either finds the pin at its level or moves it. -/
theorem requestPinsActOnEdges : Obligations.RequestPinsActOnEdges := by
  intro c i n s hn
  obtain rfl : n = irqNumber c i := hn
  refine ⟨fun h => ?raiseHigh, fun h => ?raiseLow, fun h => ?lowerLow, fun h => ?lowerHigh⟩
  case raiseHigh => rw [exec_setIrq, setIrq_of_high h]; rfl
  case raiseLow => rw [exec_setIrq, setIrq_of_low h, Pic.raised, setBitAt_true, setBitAt_true]; rfl
  case lowerLow => rw [exec_clearIrq, clearIrq_of_low h]; rfl
  case lowerHigh => rw [exec_clearIrq, clearIrq_of_high h, setBitAt_false, setBitAt_false]; rfl

/-! ## A slave request at the master (R167) -/

@[simp] theorem Pic.latched_irr (p : Pic) (i : Input) : (p.latched i).irr = p.irr := rfl

@[simp] theorem Pic.latched_irqPin (p : Pic) (i : Input) : (p.latched i).irqPin = p.irqPin := rfl

@[simp] theorem Pic.latched_intRequestPin (p : Pic) (i : Input) : (p.latched i).intRequestPin = true := rfl

@[simp] theorem serviceMaster_slave (s : State) : (serviceMaster s).slave = s.slave := by
  obtain ⟨-, h⟩ | ⟨i, -, h⟩ := serviceMaster_cases s <;> rw [h]

@[simp] theorem serviceMaster_irr (s : State) : (serviceMaster s).master.irr = s.master.irr := by
  obtain ⟨-, h⟩ | ⟨i, -, h⟩ := serviceMaster_cases s <;> simp [h]

@[simp] theorem serviceMaster_irqPin (s : State) : (serviceMaster s).master.irqPin = s.master.irqPin := by
  obtain ⟨-, h⟩ | ⟨i, -, h⟩ := serviceMaster_cases s <;> simp [h]

@[simp] theorem Pic.bitAt_raised_irr (p : Pic) (i : Input) : bitAt (p.raised i).irr i = true := by simp [Pic.raised]

@[simp] theorem Pic.bitAt_raised_irqPin (p : Pic) (i : Input) : bitAt (p.raised i).irqPin i = true := by
  simp [Pic.raised]

/-- A dispatchable input makes a controller with nothing latched latch one, itself or another. -/
theorem Pic.exists_latch_eq_some {p : Pic} {i : Input} (hpin : p.intRequestPin = false) (hi : p.Dispatchable i) :
    ∃ j, p.latch = some j := by
  refine Option.ne_none_iff_exists'.mp fun h => ?_
  obtain hpin' | hnone := (Pic.latch_eq_none_iff p).mp h
  · simp [hpin] at hpin'
  · exact hnone i hi

theorem Pic.raised_dispatchable {p : Pic} {i : Input} (hmask : bitAt p.imr i = false)
    (hfree : p.specialMask = true ∨ ∀ k, bitAt p.isr k = true → p.position i < p.position k) :
    (p.raised i).Dispatchable i :=
  ⟨p.bitAt_raised_irr i, hmask, hfree⟩

/-- A controller with no other request and nothing in service latches the input that is raised. -/
theorem Pic.latch_raised_of_idle {p : Pic} {i : Input} (hpin : p.intRequestPin = false) (hirr : p.irr = 0)
    (hisr : p.isr = 0) (hmask : bitAt p.imr i = false) : (p.raised i).latch = some i := by
  have hi : (p.raised i).Dispatchable i := Pic.raised_dispatchable hmask (.inr (by simp [hisr]))
  refine (Pic.latch_eq_some_iff _ i).mpr ⟨hpin, hi, fun k hk => ?_⟩
  obtain rfl : k = i := by simpa [Pic.raised, hirr] using hk.1
  exact le_rfl

/-- With both pins low, an unblocked slave request has the slave latch some input and the master serve its own input 2. -/
theorem setIrq_slave_of_low {i : Input} {s : State} (hlow : bitAt s.slave.irqPin i = false)
    (hpin : s.slave.intRequestPin = false) (hi : (s.slave.raised i).Dispatchable i)
    (hm : bitAt s.master.irqPin 2 = false) :
    ∃ j, setIrq (irqNumber .slave i) s =
      serviceMaster { s with slave := (s.slave.raised i).latched j, master := s.master.raised 2 } := by
  obtain ⟨j, hj⟩ := Pic.exists_latch_eq_some (p := s.slave.raised i) hpin hi
  refine ⟨j, ?_⟩
  calc setIrq (irqNumber .slave i) s
    _ = serviceSlave { s with slave := s.slave.raised i } := setIrq_of_low (c := .slave) hlow
    _ = setIrqMaster 2 { s with slave := (s.slave.raised i).latched j } := serviceSlave_of_latch_eq_some hj
    _ = _ := setIrqMaster_of_low hm

/-- Settles O18: the slave latches, and its `setIRQ(2)` is an edge on the master's pin. -/
theorem slaveRequestReachesTheMaster : Obligations.SlaveRequestReachesTheMaster := by
  intro i s hlow hmask hpin hfree hm
  obtain ⟨j, hset⟩ := setIrq_slave_of_low hlow hpin (Pic.raised_dispatchable hmask hfree) hm
  rw [show 1#1 ++ i = irqNumber .slave i from rfl, exec_setIrq, hset]
  refine ⟨_, rfl, ?latched, ?request, ?masterPin, ?masterRequest, ?idle⟩
  case latched => simp
  case request => simp
  case masterPin => simp
  case masterRequest => simp
  case idle =>
    intro hmpin hmirr hmisr hmmask
    rw [serviceMaster_of_latch_eq_some (i := 2)]
    · exact ⟨rfl, rfl, rfl⟩
    · exact Pic.latch_raised_of_idle hmpin hmirr hmisr hmmask

/-! ## The acknowledge (R163 to R165) -/

theorem exec_interruptAcknowledge (s : State) :
    exec .interruptAcknowledge s = answer (.vector (acknowledge s).1) (acknowledge s).2 := rfl

theorem setBitAt_two_false (v : Byte) : setBitAt v 2 false = v &&& 0xFB := setBitAt_false v 2

/-- The bookkeeping of an acknowledged input, the bits written as masks. -/
theorem Pic.acknowledged_eq (p : Pic) (i : Input) :
    p.acknowledged i = { p with
      irr := if p.levelMode then p.irr else p.irr &&& ~~~(1#8 <<< i.toNat)
      isr := if p.autoEoi then p.isr else p.isr ||| (1#8 <<< i.toNat)
      lowestPriority := if p.autoEoi && p.rotateOnAutoEoi then i else p.lowestPriority } := by
  rw [Pic.acknowledged, setBitAt_true, setBitAt_false]

/-- The state of an acknowledge whose master has accepted its latched input (R163). -/
def State.masterAccepted (s : State) : State :=
  { s with
    intr := false
    master := { s.master with intRequestPin := false }.acknowledged s.master.currentIrq }

/-- No request at the master: its spurious vector (R165, D31). -/
theorem acknowledge_of_master_irr_eq_zero {s : State} (h : s.master.irr = 0) :
    acknowledge s = (s.master.spuriousVector,
      { s with intr := false, master := { s.master with intRequestPin := false } }) := by
  rw [acknowledge]
  exact if_pos h

/-- A master input other than the cascade (R163). -/
theorem acknowledge_of_master_input {s : State} (h : s.master.irr ≠ 0) (h2 : s.master.currentIrq ≠ 2) :
    acknowledge s = (s.master.vectorOf s.master.currentIrq, serviceMaster s.masterAccepted) := by
  rw [acknowledge]
  exact (if_neg h).trans (if_pos h2)

/-- The cascade with no request at the slave: the slave's spurious vector (R164, R165). -/
theorem acknowledge_of_slave_irr_eq_zero {s : State} (h : s.master.irr ≠ 0) (h2 : s.master.currentIrq = 2)
    (hs : s.slave.irr = 0) :
    acknowledge s = (s.slave.spuriousVector, cascadeHead s.masterAccepted) := by
  rw [acknowledge]
  exact (if_neg h).trans <| (if_neg (not_not_intro h2)).trans (if_pos hs)

/-- The cascade with a request at the slave (R164). -/
theorem acknowledge_of_slave_input {s : State} (h : s.master.irr ≠ 0) (h2 : s.master.currentIrq = 2)
    (hs : s.slave.irr ≠ 0) :
    acknowledge s = (s.slave.vectorOf s.slave.currentIrq,
      serviceMaster (serviceSlave { cascadeHead s.masterAccepted with
        slave := { s.slave with intRequestPin := false }.acknowledged s.slave.currentIrq })) := by
  rw [acknowledge]
  exact (if_neg h).trans <| (if_neg (not_not_intro h2)).trans (if_neg hs)

/-- Settles O19: each case of the acknowledge, its bits written as masks. -/
theorem acknowledgeMovesTheRequestIntoService : Obligations.AcknowledgeMovesTheRequestIntoService := by
  intro s
  refine ⟨fun h => ?spurious, fun h h2 => ?masterInput, fun h h2 hs => ?slaveSpurious, fun h h2 hs => ?slaveInput⟩
  case spurious => rw [exec_interruptAcknowledge, acknowledge_of_master_irr_eq_zero h]; rfl
  case masterInput =>
    rw [exec_interruptAcknowledge, acknowledge_of_master_input h h2, State.masterAccepted, Pic.acknowledged_eq]; rfl
  case slaveSpurious =>
    rw [exec_interruptAcknowledge, acknowledge_of_slave_irr_eq_zero h h2 hs, cascadeHead, State.masterAccepted,
      Pic.acknowledged_eq, setBitAt_two_false]; rfl
  case slaveInput =>
    rw [exec_interruptAcknowledge, acknowledge_of_slave_input h h2 hs, cascadeHead, State.masterAccepted,
      Pic.acknowledged_eq, Pic.acknowledged_eq, setBitAt_two_false]; rfl

/-! ## IRQ numbers (R145) -/

theorem exec_requestIrqNumber_of_registered {identity : Identity} {n : BitVec 4} (h : registeredIrq identity = some n)
    (s : State) : exec (.requestIrqNumber identity) s = .next { s with reply := .irqNumber n } := by
  show execRequestIrqNumber identity s = _
  rw [execRequestIrqNumber, h]
  rfl

/-- Settles O20: the ten identities are in the registry, and no other is. -/
theorem irqNumbersAreFixed : Obligations.IrqNumbersAreFixed := by
  intro s
  refine ⟨fun x hx => exec_requestIrqNumber_of_registered ?_ s, fun _ => rfl⟩
  revert x
  decide

/-! ## What each row of the pair runs -/

section Rows

variable (c : PicId) (data : Byte) (level : Input) (s : State)

theorem exec_row_icw2 : exec (Row.icw2 c data) s = finish (icw2 c data s) := by cases c <;> rfl

theorem exec_row_icw3 : exec (Row.icw3 c data) s = finish (icw3 c s) := by cases c <;> rfl

theorem exec_row_icw4 : exec (Row.icw4 c data) s = finish (icw4 c data s) := by cases c <;> rfl

theorem exec_row_ocw1 : exec (Row.ocw1 c data) s = finish (ocw1 c data s) := by cases c <;> rfl

theorem exec_row_eoi : exec (Row.eoi c) s = finish (eoi c s) := by cases c <;> rfl

theorem exec_row_eoiRotate : exec (Row.eoiRotate c) s = finish (eoiRotate c s) := by cases c <;> rfl

theorem exec_row_seoi : exec (Row.seoi c level) s = finish (specificEoi c level s) := by cases c <;> rfl

theorem exec_row_seoiRotate : exec (Row.seoiRotate c level) s = finish (specificEoiRotate c level s) := by
  cases c <;> rfl

theorem exec_row_setPriority : exec (Row.setPriority c level) s = finish (setPriority c level s) := by
  cases c <;> rfl

theorem exec_row_rotAeoiSet : exec (Row.rotAeoiSet c) s = finish (setRotateOnAutoEoi c true s) := by cases c <;> rfl

theorem exec_row_rotAeoiClr : exec (Row.rotAeoiClr c) s = finish (setRotateOnAutoEoi c false s) := by cases c <;> rfl

theorem exec_row_ocw2Nop : exec (Row.ocw2Nop c) s = finish (s.note (.picNopCommand c)) := by cases c <;> rfl

theorem exec_row_ocw2Reserved :
    exec (Row.ocw2Reserved c data) s = finish (s.note (.picReservedOcw2 c data)) := by cases c <;> rfl

theorem exec_row_ocw3 : exec (Row.ocw3 c data) s = finish (ocw3 c data s) := by cases c <;> rfl

theorem exec_row_readCmd : exec (Row.readCmd c) s = answer (.byte (s.pic c).commandRead) s := by cases c <;> rfl

theorem exec_row_readMask : exec (Row.readMask c) s = answer (.byte (s.pic c).imr) s := by cases c <;> rfl

theorem exec_row_pollCmd : exec (Row.pollCmd c) s = answer (.byte ((poll c s).pic c).pollRead) (poll c s) := by
  cases c <;> rfl

theorem exec_row_pollMask : exec (Row.pollMask c) s = answer (.byte ((poll c s).pic c).pollRead) (poll c s) := by
  cases c <;> rfl

end Rows

/-! ## Initialization words (R146 to R149) -/

theorem State.noteIf_eq (s : State) (b : Bool) (k : LogKind) :
    s.noteIf b k = { s with log := s.log ++ if b then [k] else [] } := by
  cases b with
  | true => rfl
  | false => rw [if_neg Bool.false_ne_true, List.append_nil]; rfl

/-- ICW4's whole next state, the log entry written out. -/
theorem icw4_eq (c : PicId) (data : Byte) (s : State) :
    icw4 c data s = { s.setPic c { s.pic c with autoEoi := data.getLsbD 1, inInit := false } with
      log := s.log ++ if data.getLsbD 0 then [] else [.picNot8086 c] } := by
  rw [icw4, State.noteIf_eq, State.setPic_log, icw4Upm, icw4Aeoi]
  cases data.getLsbD 0 <;> rfl

/-- Settles O21: the words of both controllers, ICW1 apart as it moves another signal in each. -/
theorem initializationWordsSetUpTheController : Obligations.InitializationWordsSetUpTheController := by
  intro c data s
  refine ⟨rfl, ?slaveIcw1, ?icw2, ?icw3, ?icw4⟩
  case slaveIcw1 =>
    show finish (icw1 .slave data s) = _
    rw [icw1, setBitAt_two_false]
    rfl
  case icw2 => rw [exec_row_icw2]; rfl
  case icw3 => rw [exec_row_icw3]; rfl
  case icw4 => rw [exec_row_icw4, icw4_eq]; rfl

/-! ## Operation command words (R150 to R159) -/

/-- Settles O22. -/
theorem maskWriteSetsTheMaskAndServices : Obligations.MaskWriteSetsTheMaskAndServices := by
  intro c data s
  rw [exec_row_ocw1]
  rfl

theorem Pic.clearHighest_lowestPriority (p : Pic) : p.clearHighest.lowestPriority = p.lowestPriority := by
  rw [p.clearHighest_frame]

/-- Settles O23: the rotating form finds its bit with the old priority, which `clear_highest` keeps. -/
theorem endOfInterruptClearsAndServices : Obligations.EndOfInterruptClearsAndServices := by
  intro c level s
  refine ⟨?eoi, ?eoiRotate, ?seoi, ?seoiRotate⟩
  case eoi => rw [exec_row_eoi]; rfl
  case eoiRotate => rw [exec_row_eoiRotate, eoiRotate, Pic.clearHighest_lowestPriority]; rfl
  case seoi => rw [exec_row_seoi, specificEoi, setBitAt_false]; rfl
  case seoiRotate => rw [exec_row_seoiRotate, specificEoiRotate, setBitAt_false]; rfl

/-- Settles O24. -/
theorem otherCommandWordsDoNotService : Obligations.OtherCommandWordsDoNotService := by
  intro c level data s
  refine ⟨?setPriority, ?rotateSet, ?rotateClear, ?nop, ?reserved⟩
  case setPriority => rw [exec_row_setPriority]; rfl
  case rotateSet => rw [exec_row_rotAeoiSet]; rfl
  case rotateClear => rw [exec_row_rotAeoiClr]; rfl
  case nop => rw [exec_row_ocw2Nop]; rfl
  case reserved => rw [exec_row_ocw2Reserved]; rfl

/-- The two-bit selector as a Boolean formula (R105). -/
theorem selectFlag_eq (v : BitVec 2) (old : Bool) : selectFlag v old = (v == 3 || (old && v != 2)) := by
  revert v old; decide

theorem ocw3_of_poll {data : Byte} (h : data.getLsbD 2 = true) (c : PicId) (s : State) :
    ocw3 c data s = s.setPic c { s.pic c with polled := true } := by
  rw [ocw3]
  exact if_pos h

/-- The state after OCW3's two selectors have acted. -/
def State.selectModes (s : State) (c : PicId) (data : Byte) : State :=
  s.setPic c { s.pic c with
    polled := false
    readIsrSelect := selectFlag (data.extractLsb' 0 2) (s.pic c).readIsrSelect
    specialMask := selectFlag (data.extractLsb' 5 2) (s.pic c).specialMask }

theorem ocw3_of_not_poll {data : Byte} (h : data.getLsbD 2 = false) (c : PicId) (s : State) :
    ocw3 c data s =
      if data.extractLsb' 5 2 = 3 then service c (s.selectModes c data) else s.selectModes c data := by
  rw [ocw3]
  exact if_neg (Bool.eq_false_iff.mp h)

/-- Settles O25: poll, and the selectors with and without special mask enabled. -/
theorem thirdCommandWordSelectsModes : Obligations.ThirdCommandWordSelectsModes := by
  intro c data s
  refine ⟨fun hp => ?poll, fun hp he => ?enable, fun hp he => ?noEnable⟩
  case poll => rw [exec_row_ocw3, ocw3_of_poll hp]; rfl
  case enable =>
    rw [exec_row_ocw3, ocw3_of_not_poll hp, if_pos he, State.selectModes, selectFlag_eq, selectFlag_eq]; rfl
  case noEnable =>
    rw [exec_row_ocw3, ocw3_of_not_poll hp, if_neg he, State.selectModes, selectFlag_eq, selectFlag_eq]; rfl

/-! ## Reads (R160 to R162) -/

/-- Settles O26: the two plain reads and the two polled ones, which answer from the state after the poll. -/
theorem picReadsAndPolls : Obligations.PicReadsAndPolls := by
  intro c s
  refine ⟨?readCmd, ?readMask, ?pollCmd, ?pollMask⟩
  case readCmd => rw [exec_row_readCmd]; rfl
  case readMask => rw [exec_row_readMask]; rfl
  case pollCmd => rw [exec_row_pollCmd]; rfl
  case pollMask => rw [exec_row_pollMask]; rfl

end Sys2Proof.Machine

/-! The DMA pair (spec/41_dma.md): registration, request lines and hold-request arbitration, the register accesses
through the flip-flop, the unit that a transfer moves and the bytes it stores, the release of the bus, and the number of
grants up to terminal count. -/

namespace Sys2Proof.Machine

/-! ## What each row of the pair runs -/

section DmaRows

variable (d : DmaId) (j : Chan) (x : ExtSlot) (data : Byte) (s : State)

theorem exec_row_commandW : exec (Row.commandW d data) s = finish (commandWrite d data s) := by cases d <;> rfl

theorem exec_row_statusR : exec (Row.statusR d) s = statusRead d s := by cases d <;> rfl

theorem exec_row_requestW : exec (Row.requestW d data) s = finish (s.note (.dmaRequestWrite d)) := by cases d <;> rfl

theorem exec_row_singleMaskW : exec (Row.singleMaskW d data) s = finish (singleMaskWrite d data s) := by
  cases d <;> rfl

theorem exec_row_modeW : exec (Row.modeW d data) s = finish (modeWrite d data s) := by cases d <;> rfl

theorem exec_row_clearFlipflop : exec (Row.clearFlipflop d data) s = finish (clearFlipflop d s) := by cases d <;> rfl

theorem exec_row_masterClear : exec (Row.masterClear d data) s = finish (masterClear d s) := by cases d <;> rfl

theorem exec_row_clearMask : exec (Row.clearMask d data) s = finish (clearMask d s) := by cases d <;> rfl

theorem exec_row_fullMaskW : exec (Row.fullMaskW d data) s = finish (fullMaskWrite d data s) := by cases d <;> rfl

theorem exec_row_pageW : exec (Row.pageW d j data) s = finish (pageWrite d j data s) := by
  cases d <;> cases j <;> rfl

theorem exec_row_pageR : exec (Row.pageR d j) s = pageRead d j s := by cases d <;> cases j <;> rfl

theorem exec_row_extW : exec (Row.extW x data) s = finish (extWrite x data s) := by cases x <;> rfl

theorem exec_row_extR : exec (Row.extR x) s = extRead x s := by cases x <;> rfl

end DmaRows

/-- The reply is no part of a controller. -/
theorem State.dma_withReply (s : State) (r : Reply) (d : DmaId) : State.dma { s with reply := r } d = s.dma d := by
  cases d <;> rfl

/-! ## Registration (R200) -/

theorem not_eight_le_iff {g : BitVec 32} : ¬8 ≤ g ↔ g.toNat ≤ 7 := by bv_omega

/-- A number above 7 fails, and so does a channel in use. -/
theorem registerHandler_of_refused {g : BitVec 32} {s : State}
    (hr : 7 < g.toNat ∨ (s.chan (globalController (g.setWidth 3)) (globalChan (g.setWidth 3))).inUse = true)
    (h : Handler) : registerHandler g h s = (false, s) := by
  unfold registerHandler
  split
  · rfl
  · next hg =>
    have used := hr.resolve_left (Nat.not_lt.mpr (not_eight_le_iff.mp hg))
    exact if_pos used

/-- A free channel is bound. -/
theorem registerHandler_of_free {g : BitVec 32} {s : State} {d : DmaId} {j : Chan} (hg : g.toNat ≤ 7)
    (hd : globalController (g.setWidth 3) = d) (hj : globalChan (g.setWidth 3) = j)
    (hu : (s.chan d j).inUse = false) (h : Handler) :
    registerHandler g h s = (true, s.setDma d { s.dma d with
      chan := (s.dma d).chan.set j { s.chan d j with inUse := true }
      handler := (s.dma d).handler.set j (some h) }) := by
  subst hd hj
  rw [registerHandler, if_neg (not_eight_le_iff.mpr hg)]
  exact if_neg (Bool.eq_false_iff.mp hu)

theorem exec_registerChannel (g : BitVec 32) (h : Handler) (s : State) : exec (.registerChannel g h) s =
    answer (.registered (registerHandler g h s).1) (registerHandler g h s).2 := rfl

theorem exec_registerChannel_of_refused {g : BitVec 32} {s : State}
    (hr : 7 < g.toNat ∨ (s.chan (globalController (g.setWidth 3)) (globalChan (g.setWidth 3))).inUse = true)
    (h : Handler) : exec (.registerChannel g h) s = .next { s with reply := .registered false } := by
  rw [exec_registerChannel, registerHandler_of_refused hr]
  rfl

/-- Settles O27: a refused number, a free channel, and channel 4, which the invariant reserves. -/
theorem registrationBindsAFreeChannel : Obligations.RegistrationBindsAFreeChannel := by
  intro g h s
  refine ⟨fun hr => exec_registerChannel_of_refused hr h, fun hg hu => ?free, fun hi h4 => ?cascade⟩
  case free =>
    rw [exec_registerChannel, registerHandler_of_free hg rfl rfl hu]
    rfl
  case cascade =>
    subst h4
    exact exec_registerChannel_of_refused (.inr hi.cascadeReserved.1) h

/-! ## Request lines and arbitration (R202, R204, R227 a) -/

/-- Settles O28: arbitration is driven by `wantsHold`, which is the condition of R202. -/
theorem arbitrationDrivesTheHoldRequest : Obligations.ArbitrationDrivesTheHoldRequest := by
  intro s
  have own (b : Bool) (h : s.dma1.wantsHold = b) : holdEval .dma1 s = { s with hrq := b } := h ▸ rfl
  have cascade (b : Bool) (h : s.dma0.wantsHold = b) : holdEval .dma0 s = setRequest .dma1 .c0 b s := h ▸ rfl
  exact ⟨own true ∘ s.dma1.wantsHold_iff.mpr, own false ∘ s.dma1.wantsHold_eq_false_iff.mpr,
    cascade true ∘ s.dma0.wantsHold_iff.mpr, cascade false ∘ s.dma0.wantsHold_eq_false_iff.mpr⟩

theorem requestBit_eq (j : Chan) : 1#8 <<< (4 + chanIndex j) = 0x10#8 <<< chanIndex j := by cases j <;> rfl

/-- The request bit written as a mask, for each level of the line. -/
theorem Dma.withRequest_true (x : Dma) (j : Chan) : x.withRequest j true =
    { x with drq := x.drq.set j true, status := x.status ||| (0x10#8 <<< chanIndex j) } := by
  have := chanIndex_lt j
  rw [Dma.withRequest, setBit_true_eq _ _ (by omega), requestBit_eq]

theorem Dma.withRequest_false (x : Dma) (j : Chan) : x.withRequest j false =
    { x with drq := x.drq.set j false, status := x.status &&& ~~~(0x10#8 <<< chanIndex j) } := by
  have := chanIndex_lt j
  rw [Dma.withRequest, setBit_false_eq _ _ (by omega), requestBit_eq]

/-- Moving a request line leaves the channels. -/
theorem State.setDma_withRequest_chan (s : State) (d : DmaId) (j k : Chan) (b : Bool) :
    (s.setDma d ((s.dma d).withRequest j b)).chan d k = s.chan d k := by cases d <;> rfl

/-- An assertion with its two diagnostics (R204, 20_memory.md R81). -/
theorem requestLine_true (d : DmaId) (j : Chan) (s : State) :
    requestLine d j true s = { s.setDma d ((s.dma d).withRequest j true) with
      log := s.log ++ (if (s.chan d j).mode.modeType = .block then [.dmaBlockMode d j] else []) ++
        (if crossesBoundary d (s.chan d j) = true then [.dmaBoundary d j] else []) } := by
  have unfolded : requestLine d j true s =
      let t := s.setDma d ((s.dma d).withRequest j true)
      (t.noteIf ((t.chan d j).mode.modeType == .block) (.dmaBlockMode d j)).noteIf
        (crossesBoundary d (t.chan d j)) (.dmaBoundary d j) := rfl
  rw [unfolded]
  simp only [State.noteIf_eq, State.setDma_withRequest_chan, State.setDma_log, beq_iff_eq]

theorem requestLine_false (d : DmaId) (j : Chan) (s : State) :
    requestLine d j false s = s.setDma d ((s.dma d).withRequest j false) := rfl

theorem exec_setDmaRequest (g : BitVec 3) (b : Bool) (s : State) : exec (.setDmaRequest g b) s =
    finish (holdEval (globalController g) (requestLine (globalController g) (globalChan g) b s)) := rfl

/-- Settles O29: the numbers of the eight channels, and the two levels of a line. -/
theorem requestLineSetsTheRequestBit : Obligations.RequestLineSetsTheRequestBit := by
  refine ⟨by decide, fun g s => ⟨?assert, ?release⟩⟩
  case assert =>
    rw [exec_setDmaRequest, requestLine_true, Dma.withRequest_true]
    rfl
  case release =>
    rw [exec_setDmaRequest, requestLine_false, Dma.withRequest_false]
    rfl

/-- Each of the operations of R227 (a) ends with the arbitration of its controller. -/
theorem exec_arbitrates {d : DmaId} {b : Bool} {data : Byte} {g : BitVec 3} {i : Instr}
    (hi : i ∈ [Row.commandW d data, Row.singleMaskW d data, Row.masterClear d data, Row.clearMask d data,
      Row.fullMaskW d data, .setDmaRequest g b])
    (hg : i = .setDmaRequest g b → d = globalController g) (s : State) :
    ∃ u, exec i s = finish (holdEval d u) := by
  simp only [List.mem_cons, List.not_mem_nil, or_false] at hi
  obtain rfl | rfl | rfl | rfl | rfl | rfl := hi
  · exact ⟨_, exec_row_commandW d data s⟩
  · exact ⟨_, exec_row_singleMaskW d data s⟩
  · exact ⟨_, exec_row_masterClear d data s⟩
  · exact ⟨_, exec_row_clearMask d data s⟩
  · exact ⟨_, exec_row_fullMaskW d data s⟩
  · rw [hg rfl]
    exact ⟨_, exec_setDmaRequest g b s⟩

/-- Settles O30: what every arbitration leaves of HRQ and of the cascade request. -/
theorem holdRequestIffWanted : Obligations.HoldRequestIffWanted := by
  intro d b data g i s hi hg
  obtain ⟨u, hu⟩ := exec_arbitrates hi hg s
  refine ⟨_, hu, ?hrq, ?cascade⟩
  case hrq =>
    show (holdEval d u).hrq = true ↔ (holdEval d u).dma1.Wants
    rw [holdEval_hrq, Dma.wantsHold_iff]
  case cascade =>
    rintro rfl
    show (holdEval .dma0 u).dma1.requested .c0 = true ↔ (holdEval .dma0 u).dma0.Wants
    rw [holdEval_cascade, Dma.wantsHold_iff]

/-! ## Address and count registers (R205 to R208, R227 c) -/

/-- The two 16-bit registers of a channel, each with a base and a current value. -/
inductive PairedRegister where
  | address
  | count

namespace PairedRegister

def rowW : PairedRegister → DmaId → Chan → Byte → Instr
  | .address => Row.addrW
  | .count => Row.countW

def rowR : PairedRegister → DmaId → Chan → Instr
  | .address => Row.addrR
  | .count => Row.countR

def base : PairedRegister → Channel → Word
  | .address => Channel.baseAddr
  | .count => Channel.baseCount

def current : PairedRegister → Channel → Word
  | .address => Channel.curAddr
  | .count => Channel.curCount

/-- Base and current replaced. -/
def put (r : PairedRegister) (ch : Channel) (b c : Word) : Channel :=
  match r with
  | .address => { ch with baseAddr := b, curAddr := c }
  | .count => { ch with baseCount := b, curCount := c }

@[simp] theorem base_put (r : PairedRegister) (ch : Channel) (b c : Word) : r.base (r.put ch b c) = b := by
  cases r <;> rfl

@[simp] theorem current_put (r : PairedRegister) (ch : Channel) (b c : Word) : r.current (r.put ch b c) = c := by
  cases r <;> rfl

/-- The channel after a write: the selected half of base and current replaced. -/
def putHalf (r : PairedRegister) (ch : Channel) (ff : Bool) (data : Byte) : Channel :=
  r.put ch (setHalf ff (r.base ch) data) (setHalf ff (r.current ch) data)

end PairedRegister

/-- A write of either register: the half that the flip-flop selects, and the flip-flop toggles (R205, R206). -/
theorem exec_rowW (r : PairedRegister) (d : DmaId) (j : Chan) (data : Byte) (s : State) :
    exec (r.rowW d j data) s = finish (s.setDma d { s.dma d with
      flipflop := !(s.dma d).flipflop
      chan := (s.dma d).chan.set j (r.putHalf (s.chan d j) (s.dma d).flipflop data) }) := by
  cases r <;> cases d <;> cases j <;> rfl

/-- A read of either register (R207, R208). -/
theorem exec_rowR (r : PairedRegister) (d : DmaId) (j : Chan) (s : State) :
    exec (r.rowR d j) s = answer (.byte (halfOf (s.dma d).flipflop (r.current (s.chan d j))))
      (s.setDma d { s.dma d with flipflop := !(s.dma d).flipflop }) := by
  cases r <;> cases d <;> cases j <;> rfl

/-- Settles O31: the two registers' rows, with the selected half written out. -/
theorem addressAndCountAccessesMoveOneHalf : Obligations.AddressAndCountAccessesMoveOneHalf := by
  intro d j data s
  exact ⟨exec_rowW .address d j data s, exec_rowW .count d j data s, exec_rowR .address d j s, exec_rowR .count d j s⟩

/-- Low half first, then the high half: nothing of the old value is left. -/
theorem setHalf_low_high (v : Word) (lo hi : Byte) : setHalf true (setHalf false v lo) hi = hi ++ lo := by
  show hi ++ (v.extractLsb' 8 8 ++ lo).extractLsb' 0 8 = hi ++ lo
  rw [BitVec.extractLsb'_append_eq_right]

theorem halfOf_low (lo hi : Byte) : halfOf false (hi ++ lo) = lo := BitVec.extractLsb'_append_eq_right

theorem halfOf_high (lo hi : Byte) : halfOf true (hi ++ lo) = hi := BitVec.extractLsb'_append_eq_left

theorem performAll_cons {i : Instr} {l : List Instr} {s t : State} (h : exec i s = .next t) :
    performAll (i :: l) s = performAll l t := by
  rw [performAll, h]

/-- What clearing the flip-flop leaves of its controller (R214). -/
theorem exec_clearFlipflop_next (d : DmaId) (data : Byte) (s : State) :
    ∃ t, exec (Row.clearFlipflop d data) s = .next t ∧ (t.dma d).flipflop = false ∧
      ∀ j, t.chan d j = s.chan d j :=
  ⟨_, exec_row_clearFlipflop d data s, by cases d <;> rfl, fun j => by cases d <;> rfl⟩

/-- What a write of either register leaves of its channel and of the flip-flop. -/
theorem exec_rowW_next (r : PairedRegister) (d : DmaId) (j : Chan) (data : Byte) (s : State) :
    ∃ t, exec (r.rowW d j data) s = .next t ∧ (t.dma d).flipflop = !(s.dma d).flipflop ∧
      t.chan d j = r.putHalf (s.chan d j) (s.dma d).flipflop data := by
  refine ⟨_, exec_rowW r d j data s, ?_, ?_⟩
  · rw [State.dma_withReply, State.setDma_dma, if_pos rfl]
  · rw [State.chan, State.dma_withReply, State.setDma_dma, if_pos rfl, Quad.get_set_self]

/-- What a read of either register answers, and what it leaves. -/
theorem exec_rowR_next (r : PairedRegister) (d : DmaId) (j : Chan) (s : State) :
    ∃ t, exec (r.rowR d j) s = .next t ∧ t.reply = .byte (halfOf (s.dma d).flipflop (r.current (s.chan d j))) ∧
      (t.dma d).flipflop = !(s.dma d).flipflop ∧ t.chan d j = s.chan d j :=
  ⟨_, exec_rowR r d j s, rfl, by cases d <;> rfl, by cases d <;> rfl⟩

/-- Two writes from a cleared flip-flop load base and current, low byte first. -/
theorem performAll_load (r : PairedRegister) (d : DmaId) (j : Chan) (lo hi data₁ data₂ : Byte) (s : State) :
    ∃ t, performAll [Row.clearFlipflop d data₁, r.rowW d j lo, r.rowW d j hi, Row.clearFlipflop d data₂] s = .next t ∧
      (t.dma d).flipflop = false ∧ r.current (t.chan d j) = hi ++ lo ∧ r.base (t.chan d j) = hi ++ lo := by
  obtain ⟨s₁, e₁, f₁, -⟩ := exec_clearFlipflop_next d data₁ s
  obtain ⟨s₂, e₂, f₂, c₂⟩ := exec_rowW_next r d j lo s₁
  obtain ⟨s₃, e₃, -, c₃⟩ := exec_rowW_next r d j hi s₂
  obtain ⟨t, e₄, f₄, c₄⟩ := exec_clearFlipflop_next d data₂ s₃
  have loaded : t.chan d j = r.putHalf (r.putHalf (s₁.chan d j) false lo) true hi := by
    rw [c₄, c₃, c₂, f₂, f₁, Bool.not_false]
  refine ⟨t, ?_, f₄, ?_, ?_⟩
  · rw [performAll_cons e₁, performAll_cons e₂, performAll_cons e₃, performAll_cons e₄, performAll]
  · simp only [loaded, PairedRegister.putHalf, PairedRegister.current_put, setHalf_low_high]
  · simp only [loaded, PairedRegister.putHalf, PairedRegister.base_put, setHalf_low_high]

/-- Two reads from a cleared flip-flop give a loaded register back, low byte first. -/
theorem exec_readBack {r : PairedRegister} {d : DmaId} {j : Chan} {lo hi : Byte} {t : State}
    (hf : (t.dma d).flipflop = false) (hc : r.current (t.chan d j) = hi ++ lo) :
    ∃ u v, exec (r.rowR d j) t = .next u ∧ u.reply = .byte lo ∧ exec (r.rowR d j) u = .next v ∧
      v.reply = .byte hi := by
  obtain ⟨u, e₁, r₁, f₁, c₁⟩ := exec_rowR_next r d j t
  obtain ⟨v, e₂, r₂, -, -⟩ := exec_rowR_next r d j u
  refine ⟨u, v, e₁, ?_, e₂, ?_⟩
  · rw [r₁, hf, hc, halfOf_low]
  · rw [r₂, f₁, c₁, hf, hc, Bool.not_false, halfOf_high]

/-- Both halves of the round trip, for either register. -/
theorem load_readBack (r : PairedRegister) (d : DmaId) (j : Chan) (lo hi data₁ data₂ : Byte) (s : State) :
    ∃ t u v,
      performAll [Row.clearFlipflop d data₁, r.rowW d j lo, r.rowW d j hi, Row.clearFlipflop d data₂] s = .next t ∧
      r.current (t.chan d j) = hi ++ lo ∧ r.base (t.chan d j) = hi ++ lo ∧
      exec (r.rowR d j) t = .next u ∧ u.reply = .byte lo ∧ exec (r.rowR d j) u = .next v ∧ v.reply = .byte hi := by
  obtain ⟨t, et, hf, hc, hb⟩ := performAll_load r d j lo hi data₁ data₂ s
  obtain ⟨u, v, reads⟩ := exec_readBack hf hc
  exact ⟨t, u, v, et, hc, hb, reads⟩

/-- Settles O32: the round trip of each of the two registers. -/
theorem registerRoundTripThroughTheFlipflop : Obligations.RegisterRoundTripThroughTheFlipflop := by
  intro d j lo hi data₁ data₂ s
  exact ⟨load_readBack .address d j lo hi data₁ data₂ s, load_readBack .count d j lo hi data₁ data₂ s⟩

/-! ## The other register accesses (R209 to R221) -/

/-- The log entry of a command byte (R209). -/
theorem commandNote_eq (d : DmaId) (data : Byte) :
    (if commandUnsupported data then [LogKind.dmaCommandBits d data] else []) =
      if data &&& 0xFB = 0 then [] else [.dmaCommandBits d data] := by
  simp only [commandUnsupported, bne_iff_ne, ne_eq, ite_not]

/-- A command write, its log entry written out (R209). -/
theorem commandWrite_eq (d : DmaId) (data : Byte) (s : State) :
    commandWrite d data s = holdEval d
      { s.setDma d { s.dma d with command := data, disabled := data.getLsbD 2 } with
        log := s.log ++ if data &&& 0xFB = 0 then [] else [.dmaCommandBits d data] } := by
  rw [← commandNote_eq, commandWrite, State.noteIf_eq]
  cases d <;> rfl

/-- Settles O33. -/
theorem commandAndMaskWritesArbitrate : Obligations.CommandAndMaskWritesArbitrate := by
  intro d data s
  refine ⟨?command, ?singleMask, ?fullMask⟩
  case command => rw [exec_row_commandW, commandWrite_eq]; rfl
  case singleMask => rw [exec_row_singleMaskW]; rfl
  case fullMask => rw [exec_row_fullMaskW]; rfl

/-- Settles O34. -/
theorem clearOperationsOfTheDma : Obligations.ClearOperationsOfTheDma := by
  intro d data s
  refine ⟨?clearFlipflop, ?masterClear, ?clearMask⟩
  case clearFlipflop => rw [exec_row_clearFlipflop]; rfl
  case masterClear => rw [exec_row_masterClear]; rfl
  case clearMask => rw [exec_row_clearMask]; rfl

/-- Settles O35: the three accesses, and the codes of the fields. -/
theorem modeRequestAndStatusAccesses : Obligations.ModeRequestAndStatusAccesses := by
  refine ⟨fun d data s => ⟨?mode, ?request, ?status⟩, by decide, by decide, by decide, by decide⟩
  case mode => rw [exec_row_modeW]; rfl
  case request => rw [exec_row_requestW]; rfl
  case status => rw [exec_row_statusR]; rfl

/-- Settles O36. -/
theorem pageRegistersAreStorage : Obligations.PageRegistersAreStorage := by
  intro d j x data s
  refine ⟨?pageW, ?pageR, ?extW, ?extR, ?same, fun y hy => ?other⟩
  case pageW => rw [exec_row_pageW]; rfl
  case pageR => rw [exec_row_pageR]; rfl
  case extW => rw [exec_row_extW]; rfl
  case extR => rw [exec_row_extR]; rfl
  case same => rw [ExtPages.get_set, if_pos rfl]
  case other => rw [ExtPages.get_set, if_neg hy]

/-- Settles O37: each of the seven fails with the port it is read at, the port of its row. -/
theorem writeOnlyReadsFail : Obligations.WriteOnlyReadsFail := by
  intro d s x hx
  have failure {i : Instr} {port : PortNo} (hi : i ∈ writeOnlyReads d) (hp : (encodeFields i).port = port) :
      exec i s = .next { s with reply := .raised (.writeOnlyPortRead port) } :=
    hp ▸ exec_writeOnlyReads hi s
  simp only [List.mem_cons, List.not_mem_nil, or_false] at hx
  obtain rfl | rfl | rfl | rfl | rfl | rfl | rfl := hx
  all_goals exact failure (by simp [writeOnlyReads]) (by cases d <;> rfl)

/-! ## The data part of a transfer (R224, R226) -/

/-- The unit that a device hands over next: the oldest of its supply, or a free value (notes/assumptions/11.md). -/
def Env.nextUnit (e : Env) (d : DmaId) (j : Chan) : Word := (e.supply d j).headD (Config.deviceUnit e.freeUnits)

/-- The collaborators once that unit is drawn. -/
def Env.drawUnit (e : Env) (d : DmaId) (j : Chan) : Env :=
  match e.supply d j with
  | _ :: rest => e.setSupply d j rest
  | [] => { e with freeUnits := e.freeUnits + 1 }

@[simp] theorem Env.drawUnit_mem (e : Env) (d : DmaId) (j : Chan) : (e.drawUnit d j).mem = e.mem := by
  unfold Env.drawUnit
  split
  · exact e.setSupply_mem d j _
  · rfl

theorem devToMem_eq (d : DmaId) (j : Chan) (s : State) :
    devToMem d j s =
      (s.env.nextUnit d j, { s.emit (.devToMem d j s.tc) with env := s.env.drawUnit d j }) := by
  unfold devToMem Env.nextUnit Env.drawUnit
  dsimp only [State.emit_env]
  cases s.env.supply d j <;> rfl

section TransferData

variable {d : DmaId} {j : Chan} {s : State} (a : PhysAddr)

/-- The handler of a channel, the no-op one where none is bound. -/
theorem getD_of_handler {h : Handler} (hh : (s.dma d).handler.get j = some h) :
    ((s.dma d).handler.get j).getD noopHandler = h := by
  rw [hh]
  rfl

/-- A callback that no bound handler has is missing from the no-op handler too. -/
theorem getD_of_no_handler {callback : Handler → Bool} (hnoop : callback noopHandler = false)
    (hh : ∀ h, (s.dma d).handler.get j = some h → callback h = false) :
    callback (((s.dma d).handler.get j).getD noopHandler) = false := by
  cases hb : (s.dma d).handler.get j with
  | none => exact hnoop
  | some h => exact hh h hb

theorem transferData_writeToMemory (h : (((s.dma d).handler.get j).getD noopHandler).devToMem = true) :
    transferData d j .writeToMemory a s =
      { s.emit (.devToMem d j s.tc) with
        env := { s.env.drawUnit d j with mem := s.env.mem.writeUnit d a (s.env.nextUnit d j) } } := by
  simp only [transferData, if_pos h, devToMem_eq, Env.drawUnit_mem]

theorem transferData_verify (h : (((s.dma d).handler.get j).getD noopHandler).devToMem = true) :
    transferData d j .verify a s = { s.emit (.devToMem d j s.tc) with env := s.env.drawUnit d j } := by
  simp only [transferData, if_pos h, devToMem_eq]

theorem transferData_readFromMemory (h : (((s.dma d).handler.get j).getD noopHandler).memToDev = true) :
    transferData d j .readFromMemory a s = s.emit (.memToDev d j (s.env.mem.readUnit d a) s.tc) := if_pos h

/-- Without the callback that its direction needs, a transfer only logs (R226). -/
theorem transferData_of_no_devToMem (h : (((s.dma d).handler.get j).getD noopHandler).devToMem = false) :
    transferData d j .writeToMemory a s = s.note (.dmaMissingHandler d j) ∧
      transferData d j .verify a s = s.note (.dmaMissingHandler d j) :=
  ⟨if_neg (Bool.eq_false_iff.mp h), if_neg (Bool.eq_false_iff.mp h)⟩

theorem transferData_of_no_memToDev (h : (((s.dma d).handler.get j).getD noopHandler).memToDev = false) :
    transferData d j .readFromMemory a s = s.note (.dmaMissingHandler d j) := if_neg (Bool.eq_false_iff.mp h)

end TransferData

/-- A unit read, byte by byte (20_memory.md R78). -/
theorem Memory.readUnit_dma0 (m : Memory) (a : PhysAddr) : m.readUnit .dma0 a = 0#8 ++ m.read a.toNat :=
  BitVec.setWidth_eq_append (by decide)

/-- Settles O39: each type with its callback and without it. -/
theorem transferMovesOneUnit : Obligations.TransferMovesOneUnit := by
  intro d j a s asked handed v unit missing
  have drawn : handed = { s.emit (.devToMem d j s.tc) with env := s.env.drawUnit d j } := by
    simp only [handed, asked, Env.drawUnit]
    cases s.env.supply d j <;> rfl
  have hunit : s.env.mem.readUnit d a = unit := by
    cases d with
    | dma0 => exact Memory.readUnit_dma0 _ a
    | dma1 => rfl
  refine ⟨fun h hh hd => ⟨?write, ?verify⟩, fun h hh hd => ?read, fun hn => ?noDevToMem, fun hn => ?noMemToDev, rfl⟩
  case write =>
    rw [drawn, transferData_writeToMemory a (by rw [getD_of_handler hh, hd])]
    cases d <;> rfl
  case verify => rw [drawn, transferData_verify a (by rw [getD_of_handler hh, hd])]
  case read =>
    rw [transferData_readFromMemory a (by rw [getD_of_handler hh, hd]), hunit]
    rfl
  case noDevToMem => exact transferData_of_no_devToMem a (getD_of_no_handler rfl hn)
  case noMemToDev => exact transferData_of_no_memToDev a (getD_of_no_handler rfl hn)

/-! ## The bytes that a grant stores (R224; 20_memory.md R77, R78) -/

@[simp] theorem State.advanced_env (s : State) (d : DmaId) (j : Chan) : (s.advanced d j).env = s.env := by
  cases d <;> rfl

/-- The register part of the controller served (R223). -/
theorem State.advanced_dma (s : State) (d : DmaId) (j : Chan) : (s.advanced d j).dma d = (s.dma d).served j := by
  rw [Dma.served_eq, Channel.stepped_eq]
  cases d <;> rfl

theorem State.advanced_handler (s : State) (d : DmaId) (j : Chan) :
    ((s.advanced d j).dma d).handler = (s.dma d).handler := by
  rw [State.advanced_dma]
  rfl

/-- A grant leaves the memory that its data part leaves. -/
theorem busHold_mem {s : State} {d : DmaId} {j : Chan} (h : s.Grants d j) :
    (busHold s).env.mem =
      (transferData d j (s.chan d j).mode.transferType (physAddr d (s.chan d j)) (s.advanced d j)).env.mem := by
  rw [busHold_eq_of_grants h]
  dsimp only
  split
  · rw [(transferRelease_env_tc d j _).1]
  · rfl

/-- A grant stores one unit at the channel's address, or nothing; a store needs the type and the callback. -/
theorem busHold_mem_cases {s : State} {d : DmaId} {j : Chan} (h : s.Grants d j) :
    (busHold s).env.mem = s.env.mem ∨
    (s.chan d j).mode.transferType = .writeToMemory ∧
      (∃ f, (s.dma d).handler.get j = some f ∧ f.devToMem = true) ∧
      ∃ v, (busHold s).env.mem = s.env.mem.writeUnit d (physAddr d (s.chan d j)) v := by
  rw [busHold_mem h]
  obtain e | ⟨ht, hf, v, e, -⟩ := transferData_mem d j (s.chan d j).mode.transferType (physAddr d (s.chan d j))
    (s.advanced d j)
  · exact .inl (e.trans (congrArg Env.mem (s.advanced_env d j)))
  · rw [State.advanced_handler] at hf
    rw [State.advanced_env] at e
    exact .inr ⟨ht, hf, v, e⟩

/-- With the type and the callback, the unit at the head of the supply is stored. -/
theorem busHold_mem_of_supply {s : State} {d : DmaId} {j : Chan} {f : Handler} {v : Word} {rest : List Word}
    (h : s.Grants d j) (ht : (s.chan d j).mode.transferType = .writeToMemory)
    (hf : (s.dma d).handler.get j = some f) (hd : f.devToMem = true) (hs : s.env.supply d j = v :: rest) :
    (busHold s).env.mem = s.env.mem.writeUnit d (physAddr d (s.chan d j)) v := by
  have hf' : ((s.advanced d j).dma d).handler.get j = some f := by rw [State.advanced_handler, hf]
  have hv : s.env.nextUnit d j = v := by
    rw [Env.nextUnit, hs]
    rfl
  rw [busHold_mem h, ht, transferData_writeToMemory _ (by rw [getD_of_handler hf', hd])]
  dsimp only
  rw [State.advanced_env, hv]

/-- Settles O40: the one unit that a grant can store, and when it stores it. -/
theorem grantStoresItsUnitAndNothingElse : Obligations.GrantStoresItsUnitAndNothingElse := by
  intro s t d j hg ht ch a
  cases ht
  show (∀ b : Nat, b ∉ storedBytes d a → (busHold s).env.mem.read b = s.env.mem.read b) ∧
    (ch.mode.transferType ≠ .writeToMemory → ∀ b : Nat, (busHold s).env.mem.read b = s.env.mem.read b) ∧
    ((∀ h, (s.dma d).handler.get j = some h → h.devToMem = false) →
      ∀ b : Nat, (busHold s).env.mem.read b = s.env.mem.read b) ∧ _
  refine ⟨fun b hb => ?others, fun hn b => ?otherType, fun hn b => ?noCallback, fun hw hm h v rest hh hd hs => ?stored⟩
  case others =>
    obtain e | ⟨-, -, v, e⟩ := busHold_mem_cases hg
    · rw [e]
    · rw [e]
      refine Memory.read_writeUnit_of_ne _ d a v ?_ ?_
      · rintro rfl
        exact hb (by cases d <;> simp [storedBytes])
      · rintro rfl rfl
        exact hb (by simp [storedBytes])
  case otherType =>
    obtain e | ⟨hm, -⟩ := busHold_mem_cases hg
    · rw [e]
    · exact absurd hm hn
  case noCallback =>
    obtain e | ⟨-, ⟨h, hh, hd⟩, -⟩ := busHold_mem_cases hg
    · rw [e]
    · rw [hn h hh] at hd
      cases hd
  case stored =>
    show (busHold s).env.mem.read a.toNat = _ ∧ (d = .dma1 → (busHold s).env.mem.read (a + 1).toNat = _)
    rw [busHold_mem_of_supply hg hm hh hd hs]
    exact Memory.read_writeUnit_self d a v hw

/-! ## The release (R225) -/

/-- Controller 1 with its cascade channel withdrawn: request line, request bit and acknowledge. -/
def Dma.cascadeWithdrawn (x : Dma) : Dma := { x.withRequest .c0 false with dack := x.dack.set .c0 false }

theorem Dma.cascadeWithdrawn_eq (x : Dma) : x.cascadeWithdrawn =
    { x with drq := x.drq.set .c0 false, status := x.status &&& 0xEF, dack := x.dack.set .c0 false } := by
  rw [Dma.cascadeWithdrawn, Dma.withRequest_false]
  rfl

/-- The release of controller 0: HRQ is what controller 1 wants without its cascade channel. -/
theorem transferRelease_dma0 (j : Chan) (s : State) :
    transferRelease .dma0 j s = { s with
      tc := false, hlda := false, dma0 := { s.dma0 with dack := s.dma0.dack.set j false }
      dma1 := s.dma1.cascadeWithdrawn, hrq := s.dma1.cascadeWithdrawn.wantsHold } := rfl

/-- Settles O41: controller 1's release, and controller 0's with HRQ by controller 1's want. -/
theorem releaseAtTerminalCount : Obligations.ReleaseAtTerminalCount := by
  intro j s
  refine ⟨rfl, ?_⟩
  rw [transferRelease_dma0, ← Dma.cascadeWithdrawn_eq]
  refine ⟨fun hw => ?wanted, fun hn => ?notWanted⟩
  case wanted => rw [(Dma.wantsHold_iff _).mpr hw]
  case notWanted => rw [(Dma.wantsHold_eq_false_iff _).mpr hn]

/-- The channel's controller after the release. -/
theorem transferRelease_dma (d : DmaId) (j : Chan) (s : State) :
    (transferRelease d j s).dma d = { s.dma d with dack := (s.dma d).dack.set j false } := by
  cases d <;> rfl

theorem transferRelease_hlda (d : DmaId) (j : Chan) (s : State) : (transferRelease d j s).hlda = false := by
  cases d <;> rfl

/-! ## Terminal count (R223) -/

/-- The selection reads request bits and mask alone. -/
theorem Dma.Selects.congr {x y : Dma} {j : Chan} (h : x.Selects j) (hs : y.status = x.status) (hm : y.mask = x.mask) :
    y.Selects j := by
  unfold Dma.Selects
  rw [hs, hm]
  exact h

/-- A controller whose channel is not at terminal count keeps status and mask when it is served. -/
theorem Dma.served_of_more {x : Dma} {j : Chan} (h : (x.chan.get j).curCount ≠ 0) :
    (x.served j).status = x.status ∧ (x.served j).mask = x.mask := by
  rw [Dma.served_eq, beq_false_of_ne h]
  exact ⟨rfl, rfl⟩

/-- At terminal count the status bit is set, and without auto-init the mask. -/
theorem Dma.served_of_last {x : Dma} {j : Chan} (h : (x.chan.get j).curCount = 0) :
    (x.served j).status = x.status ||| (1#8 <<< chanIndex j) ∧
      (x.served j).mask = if (x.chan.get j).mode.autoinit then x.mask else x.mask.set j true := by
  rw [Dma.served_eq, h]
  refine ⟨rfl, ?_⟩
  cases (x.chan.get j).mode.autoinit <;> rfl

theorem Dma.served_chan (x : Dma) (j : Chan) : (x.served j).chan.get j = (x.chan.get j).stepped :=
  Quad.get_set_self _ _ _

theorem Channel.stepped_of_more {ch : Channel} (h : ch.curCount ≠ 0) :
    ch.stepped = { ch with
      curAddr := if ch.mode.addrDecrement then ch.curAddr - 1 else ch.curAddr + 1
      curCount := ch.curCount - 1 } := if_neg fun hc => h hc.1

/-- With auto-init the last step restores the base values (R223). -/
theorem Channel.stepped_of_last_autoinit {ch : Channel} (h : ch.curCount = 0) (ha : ch.mode.autoinit = true) :
    ch.stepped = { ch with curAddr := ch.baseAddr, curCount := ch.baseCount } := if_pos ⟨h, ha⟩

/-- Without it the count wraps. -/
theorem Channel.stepped_curCount_of_last {ch : Channel} (h : ch.curCount = 0) (ha : ch.mode.autoinit = false) :
    ch.stepped.curCount = 0xFFFF := by
  rw [Channel.stepped, if_neg (by simp [ha])]
  show ch.curCount - 1 = 0xFFFF
  rw [h]
  rfl

/-- Between two grants that serve channel `j` of controller `d`: the second state still serves it, and what the law of
the terminal count reads of the first stands, but for the count. -/
structure StillServes (d : DmaId) (j : Chan) (s t : State) : Prop where
  grants : t.Grants d j
  status : (t.dma d).status = (s.dma d).status
  mask : (t.dma d).mask = (s.dma d).mask
  hrq : t.hrq = s.hrq
  mode : (t.chan d j).mode = (s.chan d j).mode
  baseAddr : (t.chan d j).baseAddr = (s.chan d j).baseAddr
  baseCount : (t.chan d j).baseCount = (s.chan d j).baseCount

theorem StillServes.refl {d : DmaId} {j : Chan} {s : State} (h : s.Grants d j) : StillServes d j s s :=
  ⟨h, rfl, rfl, rfl, rfl, rfl, rfl⟩

theorem StillServes.trans {d : DmaId} {j : Chan} {s t u : State} (h : StillServes d j s t) (h' : StillServes d j t u) :
    StillServes d j s u where
  grants := h'.grants
  status := h'.status.trans h.status
  mask := h'.mask.trans h.mask
  hrq := h'.hrq.trans h.hrq
  mode := h'.mode.trans h.mode
  baseAddr := h'.baseAddr.trans h.baseAddr
  baseCount := h'.baseCount.trans h.baseCount

/-- The state after a grant before terminal count is the one its data part leaves. -/
theorem busHold_of_more {s : State} {d : DmaId} {j : Chan} (h : s.Grants d j) (hne : (s.chan d j).curCount ≠ 0) :
    (∀ e, (busHold s).dma e = (s.advanced d j).dma e) ∧ (busHold s).hrq = s.hrq := by
  rw [busHold_eq_of_grants h]
  dsimp only
  rw [if_neg hne]
  refine ⟨fun e => transferData_dma d e j _ _ _, ?_⟩
  rw [transferData_only]
  cases d <;> rfl

/-- A grant before terminal count leaves a channel that the next grant serves too. -/
theorem grants_busHold {s : State} {d : DmaId} {j : Chan} (h : s.Grants d j) (hne : (s.chan d j).curCount ≠ 0) :
    (busHold s).Grants d j := by
  obtain ⟨hdma, -⟩ := busHold_of_more h hne
  obtain ⟨hs, hm⟩ := Dma.served_of_more hne
  have served : (busHold s).dma d = (s.dma d).served j := (hdma d).trans (s.advanced_dma d j)
  have selects (hj : (s.dma d).Selects j) : ((busHold s).dma d).Selects j := by
    rw [served]
    exact hj.congr hs hm
  cases d with
  | dma0 =>
    have cascade : (busHold s).dma1 = s.dma1.acknowledge .c0 := hdma .dma1
    refine ⟨?_, selects h.2⟩
    rw [cascade]
    exact h.1.congr rfl rfl
  | dma1 => exact ⟨h.1, selects h.2⟩

theorem State.Grants.withReply {s : State} {d : DmaId} {j : Chan} (h : s.Grants d j) (r : Reply) :
    State.Grants { s with reply := r } d j := by cases d <;> exact h

/-- The channel served after a grant before terminal count. -/
theorem busHold_chan_of_more {s : State} {d : DmaId} {j : Chan} (h : s.Grants d j) (hne : (s.chan d j).curCount ≠ 0) :
    (busHold s).chan d j = (s.chan d j).stepped := by
  rw [State.chan, (busHold_of_more h hne).1, State.advanced_dma, Dma.served_chan]
  rfl

/-- One grant before terminal count: the channel is still served, and its count is one less. -/
theorem exec_grant_of_more {s : State} {d : DmaId} {j : Chan} (h : s.Grants d j) (hne : (s.chan d j).curCount ≠ 0) :
    ∃ t, exec .acknowledgeBusHold s = .next t ∧ StillServes d j s t ∧
      (t.chan d j).curCount = (s.chan d j).curCount - 1 := by
  obtain ⟨hdma, hhrq⟩ := busHold_of_more h hne
  obtain ⟨hs, hm⟩ := Dma.served_of_more hne
  have served : State.dma { busHold s with reply := .done } d = (s.dma d).served j := by
    rw [State.dma_withReply, hdma, State.advanced_dma]
  have stepped : State.chan { busHold s with reply := .done } d j = _ :=
    (congrArg (·.chan.get j) (State.dma_withReply _ _ d)).trans
      ((busHold_chan_of_more h hne).trans (Channel.stepped_of_more hne))
  refine ⟨{ busHold s with reply := .done }, rfl, ?_, by rw [stepped]⟩
  exact {
    grants := (grants_busHold h hne).withReply _
    status := by rw [served, hs]
    mask := by rw [served, hm]
    hrq := hhrq
    mode := by rw [stepped]
    baseAddr := by rw [stepped]
    baseCount := by rw [stepped] }

theorem toNat_sub_one {v : Word} (h : v ≠ 0) : (v - 1).toNat = v.toNat - 1 := by bv_omega

/-- As many grants as the count allows, by induction on their number. -/
theorem performAll_grants {d : DmaId} {j : Chan} (k : Nat) {s : State} (h : s.Grants d j)
    (hk : k ≤ (s.chan d j).curCount.toNat) :
    ∃ t, performAll (List.replicate k .acknowledgeBusHold) s = .next t ∧ StillServes d j s t ∧
      (t.chan d j).curCount.toNat = (s.chan d j).curCount.toNat - k := by
  induction k generalizing s with
  | zero => exact ⟨s, rfl, .refl h, rfl⟩
  | succ k ih =>
    have hne : (s.chan d j).curCount ≠ 0 := by
      intro h0
      rw [h0] at hk
      exact absurd hk (Nat.not_succ_le_zero k)
    obtain ⟨u, eu, su, cu⟩ := exec_grant_of_more h hne
    have count : (u.chan d j).curCount.toNat = (s.chan d j).curCount.toNat - 1 := by rw [cu, toNat_sub_one hne]
    obtain ⟨t, et, st, ct⟩ := ih su.grants (by omega)
    refine ⟨t, ?_, su.trans st, by omega⟩
    rw [List.replicate_succ, performAll_cons eu, et]

theorem performAll_append {l l' : List Instr} {s t : State} (h : performAll l s = .next t) :
    performAll (l ++ l') s = performAll l' t := by
  induction l generalizing s with
  | nil => cases h; rfl
  | cons i l ih =>
    rw [performAll] at h
    split at h
    · next u hu => rw [List.cons_append, performAll_cons hu, ih h]
    · cases h
    · cases h

/-- The grant at count 0: the status bit is set and the bus released, and the channel restarts or is masked. -/
theorem exec_grant_of_last {s : State} {d : DmaId} {j : Chan} (h : s.Grants d j) (h0 : (s.chan d j).curCount = 0) :
    ∃ t, exec .acknowledgeBusHold s = .next t ∧
      (t.dma d).status = (s.dma d).status ||| (1#8 <<< chanIndex j) ∧ t.hlda = false ∧ t.tc = false ∧
      (t.dma d).mask = (if (s.chan d j).mode.autoinit then (s.dma d).mask else (s.dma d).mask.set j true) ∧
      t.chan d j = (s.chan d j).stepped := by
  obtain ⟨u, hb, hu⟩ : ∃ u, busHold s = transferRelease d j u ∧ u.dma d = (s.dma d).served j := by
    refine ⟨_, (busHold_eq_of_grants h).trans (if_pos h0), ?_⟩
    rw [transferData_dma, State.advanced_dma]
  have released : State.dma { busHold s with reply := .done } d =
      { (s.dma d).served j with dack := ((s.dma d).served j).dack.set j false } := by
    rw [State.dma_withReply, hb, transferRelease_dma, hu]
  obtain ⟨hs, hm⟩ := Dma.served_of_last h0
  refine ⟨{ busHold s with reply := .done }, rfl, ?_, ?_, ?_, ?_, ?_⟩
  · rw [released]; exact hs
  · exact (congrArg State.hlda hb).trans (transferRelease_hlda d j u)
  · exact (congrArg State.tc hb).trans (transferRelease_env_tc d j u).2
  · rw [released]; exact hm
  · rw [State.chan, released]; exact Dma.served_chan _ j

/-- Settles O42: N grants bring the count to 0, and the next one is the last. -/
theorem terminalCountAfterNPlusOneTransfers : Obligations.TerminalCountAfterNPlusOneTransfers := by
  intro s d j hg n
  refine ⟨fun k hk => ?before, ?last⟩
  case before =>
    obtain ⟨t, et, st, ct⟩ := performAll_grants k hg hk
    exact ⟨t, et, st.grants, ct, st.status, st.mask, st.hrq⟩
  case last =>
    obtain ⟨u, eu, su, cu⟩ := performAll_grants n hg le_rfl
    have h0 : (u.chan d j).curCount = 0 := BitVec.eq_of_toNat_eq (cu.trans (Nat.sub_self n))
    obtain ⟨t, et, hs, hh, htc, hm, hch⟩ := exec_grant_of_last su.grants h0
    refine ⟨t, ?_, by rw [hs, su.status], hh, htc, ?_⟩
    · rw [List.replicate_succ', performAll_append eu, performAll_cons et, performAll]
    rw [hm, hch, su.mask, ← su.mode, ← su.baseAddr, ← su.baseCount]
    cases ha : (u.chan d j).mode.autoinit with
    | true =>
      rw [Channel.stepped_of_last_autoinit h0 ha]
      exact ⟨rfl, rfl, rfl⟩
    | false => exact ⟨Channel.stepped_curCount_of_last h0 ha, rfl⟩

end Sys2Proof.Machine

/-! The keyboard controller (spec/42_kbc.md): the bytes that it computes from its flags, the reads at ports 0x60 and
0x64, the commands at port 0x64 and their arguments at port 0x60, the poll and the update. -/

namespace Sys2Proof.Machine

/-! ## The bytes made of flags (10_state.md R36; 30_encoding.md R113, R115) -/

/-- The status byte, bit 7 first (D39). -/
theorem kbcStatus_bits (k : Kbc) :
    (kbcStatus k).getLsbD 7 = k.pare ∧ (kbcStatus k).getLsbD 6 = k.tim ∧ (kbcStatus k).getLsbD 5 = k.auxb ∧
      (kbcStatus k).getLsbD 4 = k.keyl ∧ (kbcStatus k).getLsbD 3 = k.cD ∧ (kbcStatus k).getLsbD 2 = k.sysf ∧
      (kbcStatus k).getLsbD 1 = k.inpb ∧ (kbcStatus k).getLsbD 0 = k.outb := by
  simp only [kbcStatus, BitVec.getLsbD_append, BitVec.getLsbD_ofBool]
  exact ⟨rfl, rfl, rfl, rfl, rfl, rfl, rfl, rfl⟩

/-- The config byte as a sum of masks (R269, D40). -/
theorem configByte_eq (k : Kbc) : configByte k =
    (if k.scancodesTranslate then 0x40#8 else 0) ||| (if k.auxClockEnabled then 0 else 0x20#8) |||
      (if k.kbdClockEnabled then 0 else 0x10#8) ||| (if k.sysf then 4 else 0) ||| (if k.allowIrq12 then 2 else 0) |||
      (if k.allowIrq1 then 1 else 0) := by
  unfold configByte
  generalize k.scancodesTranslate = translate, k.auxClockEnabled = aux, k.kbdClockEnabled = kbd, k.sysf = sysf,
    k.allowIrq12 = irq12, k.allowIrq1 = irq1
  revert translate aux kbd sysf irq12 irq1
  decide

/-- The output-port byte as a sum of masks (R278, D41). -/
theorem outportByte_eq (k : Kbc) (a20 : Bool) : outportByte k a20 =
    (if k.irq12Requested then 0x20#8 else 0) ||| (if k.irq1Requested then 0x10#8 else 0) |||
      (if a20 then 2 else 0) ||| 1 := by
  unfold outportByte
  generalize k.irq12Requested = irq12, k.irq1Requested = irq1
  revert irq12 irq1 a20
  decide

/-- The poll code as a sum, and its two bits (R115). -/
theorem pollCodeOf_eq (k : Kbc) :
    pollCodeOf k = (if k.irq12Requested then 2 else 0) + (if k.irq1Requested then 1 else 0) := by
  unfold pollCodeOf
  generalize k.irq12Requested = irq12, k.irq1Requested = irq1
  revert irq12 irq1
  decide

theorem pollCodeOf_bits (k : Kbc) :
    (pollCodeOf k).getLsbD 0 = k.irq1Requested ∧ (pollCodeOf k).getLsbD 1 = k.irq12Requested := by
  simp only [pollCodeOf, BitVec.getLsbD_append, BitVec.getLsbD_ofBool]
  exact ⟨rfl, rfl⟩

/-! ## The clocks (R261, R262) -/

/-- Switching a clock on from off with an empty output buffer schedules a re-poll. -/
theorem setKbdClock_eq (v : Bool) (s : State) : setKbdClock v s = { s with kbc := { s.kbc with
    kbdClockEnabled := v
    timerPending := s.kbc.timerPending || (v && !s.kbc.kbdClockEnabled && !s.kbc.outb) } } :=
  activateTimer_if _ _

theorem setAuxClock_eq (v : Bool) (s : State) : setAuxClock v s = { s with kbc := { s.kbc with
    auxClockEnabled := v
    timerPending := s.kbc.timerPending || (v && !s.kbc.auxClockEnabled && !s.kbc.outb) } } :=
  activateTimer_if _ _

/-- Switching a clock off schedules nothing. -/
theorem setKbdClock_false (s : State) :
    setKbdClock false s = { s with kbc := { s.kbc with kbdClockEnabled := false } } := rfl

theorem setAuxClock_false (s : State) :
    setAuxClock false s = { s with kbc := { s.kbc with auxClockEnabled := false } } := rfl

/-! ## The output path (R263) -/

/-- With the buffer full a byte joins the queue, and beyond the nominal length that is logged (D48). -/
theorem kbcEnqueue_of_full {s : State} (h : s.kbc.outb = true) (b : Byte) (aux : Bool) :
    kbcEnqueue b aux s = { s with
      kbc := { s.kbc with q := s.kbc.q ++ [b] }
      log := s.log ++ (if s.kbc.q.length < 5 then [] else [.kbcQueueOverrun]) } := by
  have entry : (if decide (5 ≤ s.kbc.q.length) then [LogKind.kbcQueueOverrun] else []) =
      if s.kbc.q.length < 5 then [] else [.kbcQueueOverrun] := by
    simp only [decide_eq_true_eq, ← Nat.not_lt, ite_not]
  rw [kbcEnqueue, if_pos h, State.noteIf_eq, ← entry]
  rfl

/-- With the buffer empty it enters the buffer of its side. -/
theorem kbcEnqueue_of_empty {s : State} (h : s.kbc.outb = false) (b : Byte) (aux : Bool) :
    kbcEnqueue b aux s =
      { s with kbc := { (if aux then s.kbc.putAux b else s.kbc.putKbd b) with inpb := false } } :=
  if_neg (Bool.eq_false_iff.mp h)

/-! ## The reads at ports 0x60 and 0x64 (R264 to R267) -/

/-- Settles O45, with the bits of the status byte. -/
theorem statusReadGivesTheEightFlags : Obligations.StatusReadGivesTheEightFlags :=
  fun s => ⟨kbcStatus s.kbc, rfl, kbcStatus_bits s.kbc⟩

/-- `clearIRQ` and the keyboard controller are independent. -/
theorem clearIrq_withKbc (n : BitVec 4) (s : State) (k : Kbc) :
    clearIrq n { s with kbc := k } = { clearIrq n s with kbc := k } := by
  unfold clearIrq
  cases irqController n <;> dsimp only [State.pic] <;> split <;> rfl

/-- The end of a read on either path: the line is down and a re-poll is due. -/
theorem activateTimer_clearIrq (n : BitVec 4) (s : State) (k : Kbc) :
    activateTimer (clearIrq n { s with kbc := k }) =
      { clearIrq n s with kbc := { k with timerPending := true } } := by
  rw [clearIrq_withKbc]
  rfl

/-- Settles O46: on both paths with the queue empty and with a byte in it. -/
theorem dataReadDeliversAndRefills : Obligations.DataReadDeliversAndRefills := by
  intro s
  refine ⟨?aux, ?kbd, rfl⟩
  case aux =>
    refine (congrArg (answer _) (activateTimer_clearIrq 12 s _)).trans ?_
    cases s.kbc.q <;> rfl
  case kbd =>
    refine (congrArg (answer _) (activateTimer_clearIrq 1 s _)).trans ?_
    cases s.kbc.q <;> rfl

/-! ## The commands at port 0x64 (R268 to R287) -/

/-- Settles O49: off schedules nothing, on schedules by the rule of the clock. -/
theorem clockCommandsSwitchTheClocks : Obligations.ClockCommandsSwitchTheClocks := by
  intro s
  refine ⟨?auxOff, ?auxOn, ?kbdOff, ?kbdOn⟩
  case auxOff => exact congrArg finish (setAuxClock_false (commandPrologue 0xA7 s))
  case auxOn => exact congrArg finish (setAuxClock_eq true (commandPrologue 0xA8 s))
  case kbdOff => exact congrArg finish (setKbdClock_false (commandPrologue 0xAD s))
  case kbdOn => exact congrArg finish (setKbdClock_eq true (commandPrologue 0xAE s))

/-- The config byte is refused while the buffer is full (R269). -/
theorem readConfig_of_full {s : State} (h : s.kbc.outb = true) : readConfig s = s.note .kbcOutputBufferFull := if_pos h

theorem readConfig_of_empty {s : State} (h : s.kbc.outb = false) :
    readConfig s = kbcEnqueue (configByte s.kbc) false s := if_neg (Bool.eq_false_iff.mp h)

/-- A self-test after the first one (R274). -/
theorem selfTest_of_done {s : State} (h : s.kbc.selftestDone = true) :
    selfTest s = kbcEnqueue 0x55 false { s with kbc := { s.kbc with sysf := true } } := by
  rw [selfTest, if_pos h]

/-- The first one empties the output path, so that its reply enters the buffer (D45). -/
theorem selfTest_of_not_done {s : State} (h : s.kbc.selftestDone = false) :
    selfTest s = { s with kbc := { s.kbc with
      q := [], selftestDone := true, sysf := true, kbdOutputBuffer := 0x55, outb := true, auxb := false, inpb := false
      irq1Requested := s.kbc.irq1Requested || s.kbc.allowIrq1 } } := by
  rw [selfTest, if_neg (Bool.eq_false_iff.mp h)]
  exact kbcEnqueue_of_empty rfl 0x55 false

/-- Settles O48: each reply by the closed form of its byte and of its command. -/
theorem controllerRepliesAreEnqueued : Obligations.ControllerRepliesAreEnqueued := by
  intro s after k config outport
  refine ⟨fun hf => ?refused, fun he => ?config, rfl, rfl, ?outport, fun hd => ?selfTest, fun hn => ?firstSelfTest⟩
  case refused => exact congrArg finish (readConfig_of_full (s := after 0x20) hf)
  case config =>
    have byte : configByte (after 0x20).kbc = config := configByte_eq _
    exact congrArg finish ((readConfig_of_empty (s := after 0x20) he).trans (by rw [byte]))
  case outport =>
    have byte : outportByte s.kbc s.env.a20 = outport := outportByte_eq _ _
    exact congrArg (fun b => finish (kbcEnqueue b false (after 0xD0))) byte
  case selfTest => exact congrArg finish (selfTest_of_done (s := after 0xAA) hd)
  case firstSelfTest => exact congrArg finish (selfTest_of_not_done (s := after 0xAA) hn)

/-- Settles O50: each command is its prologue and at most one assignment or log entry. -/
theorem commandsWithoutAReply : Obligations.CommandsWithoutAReply := by
  intro data s after
  refine ⟨?arguments, rfl, rfl, rfl, rfl, rfl⟩
  simp only [List.forall_mem_cons]
  exact ⟨rfl, rfl, rfl, rfl, rfl, nofun⟩

/-! ## The arguments at port 0x60 (R288 to R294) -/

/-- Settles O47, with the buffer full and with it empty. -/
theorem injectedByteEntersTheOutputPath : Obligations.InjectedByteEntersTheOutputPath := by
  intro data s k queued
  have full (ho : s.kbc.outb = true) (aux : Bool) : finish (kbcEnqueue data aux (argumentPrologue s)) = .next queued :=
    congrArg finish (kbcEnqueue_of_full (s := argumentPrologue s) ho data aux)
  have empty (ho : s.kbc.outb = false) (aux : Bool) :=
    congrArg finish (kbcEnqueue_of_empty (s := argumentPrologue s) ho data aux)
  exact ⟨fun ho => ⟨full ho false, full ho true⟩, fun ho => ⟨empty ho false, empty ho true⟩⟩

/-- At most one of the two requests is latched, the mouse's before the keyboard's (R289). -/
theorem latchRequests_eq (aux allowed full : Bool) (s : State) :
    (if aux then { s with kbc := { s.kbc with irq12Requested := true } }
      else if allowed && full then { s with kbc := { s.kbc with irq1Requested := true } } else s) =
    { s with kbc := { s.kbc with
      irq12Requested := s.kbc.irq12Requested || aux
      irq1Requested := s.kbc.irq1Requested || (!aux && allowed && full) } } := by
  rw [Bool.and_assoc]
  cases aux
  · cases allowed && full <;> simp
  · simp

/-- Either clock coming on with an empty output buffer schedules the re-poll. -/
theorem repoll_of_clocks (pending kbdOn auxOn full : Bool) :
    (pending || (kbdOn && !full) || (auxOn && !full)) = (pending || (!full && (kbdOn || auxOn))) := by
  cases full <;> simp [Bool.or_assoc]

/-- The config byte's effect (R289). -/
theorem writeConfig_eq (data : Byte) (s : State) : writeConfig data s = { s with kbc := { s.kbc with
    scancodesTranslate := data.getLsbD 6, sysf := data.getLsbD 2
    allowIrq12 := data.getLsbD 1, allowIrq1 := data.getLsbD 0
    kbdClockEnabled := !data.getLsbD 4, auxClockEnabled := !data.getLsbD 5
    timerPending := s.kbc.timerPending || (!s.kbc.outb &&
      ((!data.getLsbD 4 && !s.kbc.kbdClockEnabled) || (!data.getLsbD 5 && !s.kbc.auxClockEnabled)))
    irq12Requested := s.kbc.irq12Requested || (data.getLsbD 1 && s.kbc.auxb)
    irq1Requested := s.kbc.irq1Requested ||
      (!(data.getLsbD 1 && s.kbc.auxb) && data.getLsbD 0 && s.kbc.outb) } } := by
  refine (latchRequests_eq _ _ _ _).trans ?_
  rw [setKbdClock_eq, setAuxClock_eq, ← repoll_of_clocks]
  rfl

/-- The output-port byte moves A20 and, with bit 0 clear, asks for a CPU reset (R290). -/
theorem writeOutport_eq (data : Byte) (s : State) : writeOutport data s = { s with
    env := { s.env with a20 := data.getLsbD 1 }
    outputs := s.outputs ++ (if data.getLsbD 0 then [] else [.cpuResetRequest]) } := by
  unfold writeOutport outportNoReset
  cases data.getLsbD 0
  · rfl
  · exact (congrArg (fun l => { setA20 (outportA20 data) s with outputs := l }) (List.append_nil s.outputs)).symm

/-- Settles O51: the closed forms of the config and the output-port byte, and the two arguments that only end. -/
theorem controllerArgumentsAreConsumed : Obligations.ControllerArgumentsAreConsumed := by
  intro data s k kOn aOn
  exact ⟨congrArg finish (writeConfig_eq data (argumentPrologue s)),
    congrArg finish (writeOutport_eq data (argumentPrologue s)), rfl, rfl⟩

/-! ## The poll and the update (R296, R297) -/

/-- A source of bytes is ready when it is enabled and holds one. -/
theorem ready_iff {enabled : Bool} {l : List Byte} :
    (enabled && !l.isEmpty) = true ↔ enabled = true ∧ ∃ b rest, l = b :: rest := by
  cases l <;> simp

theorem not_ready_iff {enabled : Bool} {l : List Byte} :
    (enabled && !l.isEmpty) = false ↔ l = [] ∨ enabled = false := by
  cases l <;> simp

theorem pollFetch_of_not_due {s : State} (h : s.kbc.timerPending = false) : pollFetch s = s := by
  rw [pollFetch, h]
  rfl

theorem pollFetch_of_full {s : State} (ht : s.kbc.timerPending = true) (ho : s.kbc.outb = true) :
    pollFetch s = { s with kbc := { s.kbc with timerPending := false } } := by
  rw [pollFetch, ht]
  exact if_pos ho

section Fetch

variable {s : State} {b : Byte} {rest : List Byte}

/-- The keyboard's byte is fetched first. -/
theorem pollFetch_of_kbd (ht : s.kbc.timerPending = true) (ho : s.kbc.outb = false)
    (hc : (s.kbc.kbdClockEnabled || s.kbc.batInProgress) = true) (hb : s.kbd.buf = b :: rest) :
    pollFetch s = { s with
      kbc := Kbc.putKbd { s.kbc with timerPending := false } b, kbd := { s.kbd with buf := rest } } := by
  simp [pollFetch, ht, ho, hc, hb]

/-- The mouse's when the keyboard has none to give. -/
theorem pollFetch_of_mouse (ht : s.kbc.timerPending = true) (ho : s.kbc.outb = false)
    (hk : ((s.kbc.kbdClockEnabled || s.kbc.batInProgress) && !s.kbd.buf.isEmpty) = false)
    (hc : s.kbc.auxClockEnabled = true) (hm : s.env.mouse = b :: rest) :
    pollFetch s = { s with
      kbc := Kbc.putAux { s.kbc with timerPending := false } b, env := { s.env with mouse := rest } } := by
  obtain hb | hd := not_ready_iff.mp hk
  · simp [pollFetch, ht, ho, hb, hc, hm]
  · simp [pollFetch, ht, ho, hd, hc, hm]

/-- With neither ready nothing is fetched, whatever the buffer holds. -/
theorem pollFetch_of_none (ht : s.kbc.timerPending = true)
    (hk : ((s.kbc.kbdClockEnabled || s.kbc.batInProgress) && !s.kbd.buf.isEmpty) = false)
    (ha : (s.kbc.auxClockEnabled && !s.env.mouse.isEmpty) = false) :
    pollFetch s = { s with kbc := { s.kbc with timerPending := false } } := by
  obtain hb | hd := not_ready_iff.mp hk <;> obtain hm | hc := not_ready_iff.mp ha
  · simp [pollFetch, ht, hb, hm]
  · simp [pollFetch, ht, hb, hc]
  · simp [pollFetch, ht, hd, hm]
  · simp [pollFetch, ht, hd, hc]

end Fetch

/-- Settles O52: nothing due, nothing fetched, and the two sources. -/
theorem pollFetchesOneByte : Obligations.PollFetchesOneByte := by
  intro s k off kbdReady auxReady
  refine ⟨fun ht => ?notDue, fun ht hn => ?nothing, fun ht ho hk => ?kbd, fun ht ho hk ha => ?mouse⟩
  case notDue => exact pollFetch_of_not_due (s := { s with kbc := k }) ht
  case nothing =>
    obtain ho | ⟨hk, ha⟩ := hn
    · exact pollFetch_of_full (s := { s with kbc := k }) ht ho
    · exact pollFetch_of_none (s := { s with kbc := k }) ht hk ha
  case kbd =>
    obtain ⟨hc, b, rest, hb⟩ := ready_iff.mp hk
    rw [hb]
    exact pollFetch_of_kbd (s := { s with kbc := k }) ht ho hc hb
  case mouse =>
    obtain ⟨hc, b, rest, hm⟩ := ready_iff.mp ha
    rw [hm]
    exact pollFetch_of_mouse (s := { s with kbc := k }) ht ho hk hc hm

theorem exec_update (s : State) : exec .update s = answer (.pollCode (pollCodeOf s.kbc)) (updateCycle s) := rfl

/-- Settles O53: the code's two bits are the requests before the poll. -/
theorem updateRaisesTheLatchedRequests : Obligations.UpdateRaisesTheLatchedRequests := by
  intro s
  obtain ⟨irq1, irq12⟩ := pollCodeOf_bits s.kbc
  rw [exec_update, updateCycle, irq1, irq12, pollCodeOf_eq]
  rfl

end Sys2Proof.Machine

/-! The keyboard device (spec/43_kbd_device.md): its replies, the scancodes of a key event, and the closed forms of its
argument bytes, its commands and its resets. -/

namespace Sys2Proof.Machine

/-! ## The device's replies (R330) -/

/-- A further byte lengthens the reply. -/
theorem kbdEnqueue_deviceSends (b : Byte) (l : List Byte) {s : State} (h : s.kbd.buf.length ≤ 16) :
    kbdEnqueue b (s.deviceSends l) = s.deviceSends (l ++ [b]) := by
  rw [kbdEnqueue_eq b _ (s.deviceSends_length l), s.deviceSends_append l [b] h]

/-- Two enqueues are a reply of two bytes. -/
theorem kbdEnqueue_kbdEnqueue (b c : Byte) {s : State} (h : s.kbd.buf.length ≤ 16) :
    kbdEnqueue c (kbdEnqueue b s) = s.deviceSends [b, c] := by
  rw [kbdEnqueue_eq b s h]
  exact kbdEnqueue_deviceSends c [b] h

/-- Into an empty buffer a short reply goes whole. -/
theorem State.deviceSends_of_empty {s : State} {l : List Byte} (hb : s.kbd.buf = []) (hn : l ≠ []) (hl : l.length ≤ 16) :
    s.deviceSends l = { s with
      kbd := { s.kbd with buf := l }
      kbc := { s.kbc with timerPending := s.kbc.timerPending || (!s.kbc.outb && s.kbc.kbdClockEnabled) } } := by
  have dropped : l.length - 16 = 0 := Nat.sub_eq_zero_of_le hl
  have nonempty : l.isEmpty = false := List.isEmpty_eq_false_iff.mpr hn
  simp [State.deviceSends, hb, hl, dropped, nonempty]

/-! ## The scancodes of a key event (R347, R348) -/

/-- Translated or raw, the sequence is one reply of the device. -/
theorem emitScancodes_eq (seq : List Byte) {s : State} (h : s.kbd.buf.length ≤ 16) :
    emitScancodes seq s = s.deviceSends (if s.kbc.scancodesTranslate then translatedBytes false seq else seq) := by
  unfold emitScancodes
  split
  case isTrue => exact emitTranslated_eq seq false s h
  case isFalse => exact emitRaw_eq seq s h

theorem hostKey_of_disabled {s : State} (h : s.kbd.scanningEnabled = false) (key : BitVec 32) (type : KeyType)
    (side : KeySide) : hostKey key type side s = s :=
  if_neg (Bool.eq_false_iff.mp h)

theorem hostKey_of_enabled {s : State} (h : s.kbd.scanningEnabled = true) (key : BitVec 32) (type : KeyType)
    (side : KeySide) : hostKey key type side s = emitScancodes (scancodesOf s key type side) s :=
  if_pos h

/-- Settles O57, with scanning off and on. -/
theorem keyEventSendsItsScancodes : Obligations.KeyEventSendsItsScancodes := by
  intro key type side s seq
  refine ⟨fun off => ?discarded, fun on hb => ?sent⟩
  case discarded => exact congrArg finish (hostKey_of_disabled off key type side)
  case sent => exact congrArg finish ((hostKey_of_enabled on key type side).trans (emitScancodes_eq seq hb))

/-! ## The argument bytes (R333 to R335) -/

/-- An operation of the device begins with the arrival of its byte. -/
theorem finish_devicePrologue {f : State → State} {s t : State} (h : f s.deviceByte = t) :
    finish (f (devicePrologue s)) = finish t := by
  rw [devicePrologue_eq, h]

section Bounded

variable {s : State} (h : s.kbd.buf.length ≤ 16)

include h

theorem typematicByte_eq (data : Byte) : typematicByte data s =
    State.deviceSends { s with kbd := { s.kbd with
      expectingTypematic := false, delay := data.extractLsb' 5 2, repeatRate := data.extractLsb' 0 5 } } [0xFA] :=
  kbdEnqueue_eq 0xFA _ h

/-- The three notifications are in the order num, caps, scroll. -/
theorem ledByte_eq (data : Byte) : ledByte data s =
    State.deviceSends { s with
      kbd := { s.kbd with expectingLedWrite := false, ledStatus := data }
      outputs := s.outputs ++ [.notify .num (data.getLsbD 1), .notify .caps (data.getLsbD 2),
        .notify .scroll (data.getLsbD 0)] } [0xFA] := by
  refine (kbdEnqueue_eq 0xFA _ ?bound).trans ?notified
  case bound => exact h
  case notified => simp only [State.emit, ledBit, List.append_assoc, List.cons_append, List.nil_append]

theorem scancodeSetByte_zero : scancodeSetByte 0 s =
    State.deviceSends { s with kbd := { s.kbd with expectingScancodeSet := false } }
      [0xFA, s.kbc.currentScancodeSet.setWidth 8] := by
  rw [scancodeSetByte, if_pos rfl]
  exact kbdEnqueue_kbdEnqueue 0xFA _ h

theorem scancodeSetByte_of_named {data : Byte} (h1 : 1 ≤ data.toNat) (h3 : data.toNat ≤ 3) : scancodeSetByte data s =
    State.deviceSends { s with
      kbd := { s.kbd with expectingScancodeSet := false }
      kbc := { s.kbc with currentScancodeSet := data.setWidth 2 } } [0xFA] := by
  have nonzero : data ≠ 0 := by rintro rfl; simp at h1
  have inRange : data ≤ 3 := h3
  rw [scancodeSetByte, if_neg nonzero, if_pos inRange, ← BitVec.setWidth_eq_extractLsb' (by decide)]
  exact kbdEnqueue_eq 0xFA _ h

theorem scancodeSetByte_of_outOfRange {data : Byte} (h3 : 3 < data.toNat) : scancodeSetByte data s =
    State.deviceSends { s with
      kbd := { s.kbd with expectingScancodeSet := false }
      log := s.log ++ [.kbdBadScancodeSet data] } [0xFF] := by
  have nonzero : data ≠ 0 := by rintro rfl; simp at h3
  have outOfRange : ¬ data ≤ 3 := Nat.not_le.mpr h3
  rw [scancodeSetByte, if_neg nonzero, if_neg outOfRange]
  exact kbdEnqueue_eq 0xFF _ h

end Bounded

/-- Settles O54, the selector in its three ranges. -/
theorem deviceArgumentsAreConsumed : Obligations.DeviceArgumentsAreConsumed := by
  intro data s hb u
  have hu : u.kbd.buf.length ≤ 16 := hb
  refine ⟨?typematic, ?led, fun h0 => ?current, fun h1 h3 => ?named, fun h3 => ?outOfRange⟩
  case typematic => exact finish_devicePrologue (typematicByte_eq hu data)
  case led => exact finish_devicePrologue (ledByte_eq hu data)
  case current =>
    subst h0
    exact finish_devicePrologue (scancodeSetByte_zero hu)
  case named => exact finish_devicePrologue (scancodeSetByte_of_named hu h1 h3)
  case outOfRange => exact finish_devicePrologue (scancodeSetByte_of_outOfRange hu h3)

/-! ## The commands without a reset (R336 to R341, R344, R346) -/

/-- A command that changes the device's own state is acknowledged. -/
theorem finish_acknowledged (change : Kbd → Kbd) {s : State} (h : (change s.kbd).buf.length ≤ 16) :
    finish (kbdEnqueue 0xFA { devicePrologue s with kbd := change (devicePrologue s).kbd }) =
      finish (State.deviceSends { s.deviceByte with kbd := change s.kbd } [0xFA]) :=
  finish_devicePrologue (f := fun u => kbdEnqueue 0xFA { u with kbd := change u.kbd }) (kbdEnqueue_eq 0xFA _ h)

theorem identify_eq {s : State} (h : s.kbd.buf.length ≤ 16) :
    identify s = s.deviceSends [0xFA, 0xAB, if s.kbc.scancodesTranslate then 0x41 else 0x83] := by
  rw [identify, kbdEnqueue_kbdEnqueue _ _ h]
  exact kbdEnqueue_deviceSends _ _ h

/-- Settles O55: the four commands that change the device alone, and the four others. -/
theorem deviceCommandsAnswer : Obligations.DeviceCommandsAnswer := by
  intro data s hb u
  have hu : u.kbd.buf.length ≤ 16 := hb
  refine ⟨?setLeds, ?selectSet, ?setTypematic, ?enableScanning, ?echo, ?identify, ?resend, ?unrecognized⟩
  case setLeds => exact finish_acknowledged (fun k => { k with expectingLedWrite := true }) hb
  case selectSet => exact finish_acknowledged (fun k => { k with expectingScancodeSet := true }) hb
  case setTypematic => exact finish_acknowledged (fun k => { k with expectingTypematic := true }) hb
  case enableScanning => exact finish_acknowledged (fun k => { k with scanningEnabled := true }) hb
  case echo => exact finish_devicePrologue (kbdEnqueue_eq 0xEE u hu)
  case identify => exact finish_devicePrologue (identify_eq hu)
  case resend => exact finish_devicePrologue (f := fun v => v.note .kbdResendRequested) rfl
  case unrecognized =>
    exact finish_devicePrologue (f := fun v => kbdEnqueue 0xFE (v.note (.kbdUnrecognizedCommand data)))
      (kbdEnqueue_eq 0xFE _ hu)

/-! ## The resets (R331, R342, R343, R345) -/

/-- The acknowledge enters the emptied buffer. -/
theorem kbdEnqueue_resetInternals (b : Byte) (s : State) :
    kbdEnqueue b (resetInternals s) = (resetInternals s).deviceSends [b] :=
  kbdEnqueue_eq b _ (Nat.zero_le 16)

/-- Scanning is switched after the acknowledge, which neither reads nor changes it. -/
theorem resetScanning_eq (on : Bool) (s : State) : resetScanning on s = { resetInternals s with
    kbd := { (resetInternals s).kbd with buf := [0xFA], scanningEnabled := on }
    kbc := { (resetInternals s).kbc with
      timerPending := s.kbc.timerPending || (!s.kbc.outb && s.kbc.kbdClockEnabled) } } := by
  rw [resetScanning, kbdEnqueue_resetInternals, State.deviceSends_of_empty rfl (by nofun) (by decide)]
  rfl

/-- The BAT is in progress (R345). -/
def beginBat (s : State) : State := { s with kbc := { s.kbc with batInProgress := true } }

theorem resetBat_eq_enqueues (s : State) :
    resetBat s = kbdEnqueue 0xAA (beginBat (kbdEnqueue 0xFA (resetInternals s))) := rfl

/-- A reply neither reads nor changes whether a BAT is in progress. -/
theorem beginBat_deviceSends (s : State) (l : List Byte) :
    beginBat (s.deviceSends l) = (beginBat s).deviceSends l := rfl

/-- The BAT begins between the two bytes of one reply. -/
theorem resetBat_eq (s : State) : resetBat s = { resetInternals s with
    kbd := { (resetInternals s).kbd with buf := [0xFA, 0xAA] }
    kbc := { (resetInternals s).kbc with
      batInProgress := true
      timerPending := s.kbc.timerPending || (!s.kbc.outb && s.kbc.kbdClockEnabled) } } := by
  have emptied : (beginBat (resetInternals s)).kbd.buf = [] := rfl
  have bound : (beginBat (resetInternals s)).kbd.buf.length ≤ 16 := Nat.zero_le 16
  rw [resetBat_eq_enqueues, kbdEnqueue_resetInternals, beginBat_deviceSends, kbdEnqueue_deviceSends _ _ bound,
    State.deviceSends_of_empty emptied (by nofun) (by decide)]
  rfl

/-- Settles O56: the arriving byte has switched the keyboard clock on, so a re-poll is due with the output buffer empty. -/
theorem deviceResetsDiscardAndAnswer : Obligations.DeviceResetsDiscardAndAnswer := by
  intro s u kbd kbc
  have clockOn : (!s.kbc.outb) = (!u.kbc.outb && u.kbc.kbdClockEnabled) := (Bool.and_true _).symm
  simp only [kbd, kbc, clockOn]
  exact ⟨finish_devicePrologue (resetScanning_eq false u), finish_devicePrologue (resetScanning_eq true u),
    finish_devicePrologue (resetBat_eq u)⟩

end Sys2Proof.Machine

/-! Reset (spec/70_reset_and_hazards.md): `reset()` in terms of the reset state. -/

namespace Sys2Proof.Machine

/-- What `reset()` keeps of the state before it: the collaborators but for the port grants, the last reply, the record and
the events to come (R421, 10_state.md R54). -/
theorem resetBlock_eq (s : State) : resetBlock s =
    { State.reset with
      env := { s.env with granted := ownedPorts.filter fun p => !s.env.foreign.contains p }
      reply := s.reply, outputs := s.outputs, log := s.log, inbox := s.inbox } := rfl

theorem exec_reset (s : State) : exec .reset s = finish (resetBlock s) := rfl

/-- Settles O8: of what `resetBlock` keeps, the operation's answer replaces the last reply. -/
theorem resetRestoresTheBlock : Obligations.ResetRestoresTheBlock := by
  intro s
  rw [exec_reset, resetBlock_eq]
  rfl

end Sys2Proof.Machine
